-- ==== Sys2Proof/Word.lean ====
section
/-! DEFINITION. The word types: bytes, 16-bit words (10_state.md R20 to R24) and 32-bit pixels (R58). -/

namespace Sys2Proof

/-- An 8-bit value: a register, a memory byte, an opcode byte (R20, R52). -/
abbrev Byte := BitVec 8

/-- A 16-bit value: a register pair, SP, PC, a bus address (R21, R23, R24, R52). -/
abbrev Word := BitVec 16

/-- A packed 32-bit true-colour pixel (R58, R449). -/
abbrev Pixel := BitVec 32

end Sys2Proof
end

