-- ==== Sys2Proof/Config.lean ====
section
/-! DEFINITION. What is fixed for the machine (00_scope.md R8), the names of the launch choices, and the
uninterpreted behaviour of a supplied cartridge or external unit (20_memory.md R78, R88; log 11, log 12). -/

namespace Sys2Proof

/-- The two hardware variants (R3). -/
inductive Variant where
  | dmg
  | cgb
deriving DecidableEq, Repr

/-- What an access to an unmapped I/O address does (R91). -/
inductive UnmappedPolicy where
  | fatal
  | sentinel
deriving DecidableEq, Repr

/-- Mode-2 length in cycles (R8). -/
abbrev Config.tOam : Nat := 80
/-- Mode-3 length in cycles (R8). -/
abbrev Config.tXfer : Nat := 172
/-- Mode-0 length in cycles (R8). -/
abbrev Config.tHblank : Nat := 204
/-- Scanline length in cycles (R8). -/
abbrev Config.tLine : Nat := 456
/-- Visible lines per frame (R8). -/
abbrev Config.nVisible : Byte := 144
/-- Lines per frame (R8). -/
abbrev Config.nLines : Byte := 154
/-- Cycles per frame (R8). -/
abbrev Config.tFrame : Nat := 70224
/-- Screen width in pixels (R8). -/
abbrev Config.screenW : Nat := 160
/-- Screen height in pixels (R8). -/
abbrev Config.screenH : Nat := 144
/-- Divider period at normal speed (R8, R511). -/
abbrev Config.divPeriod : Nat := 256
/-- Default of `INT_SERVICE_CYCLES`, the cost of servicing an interrupt (R8; OPEN by decision D7: `Launch.intServiceCycles`
is the parameter). -/
abbrev Config.defaultIntServiceCycles : Nat := 20
/-- Cost of an idle step of the halted CPU (R491). -/
abbrev Config.haltedCycles : Nat := 4
/-- The sentinel a read of nothing returns (R87, R91, R79, R88). -/
abbrev Config.openBus : Byte := 0xFF
/-- What a cell that no list names reads as. The spec leaves INIT_RAM open (R61); DESIGN CHOICE, unsafe: log 2. -/
abbrev Config.unlistedByte : Byte := 0x00
/-- What a frame-buffer pixel never rendered holds. The spec leaves it open (R61); DESIGN CHOICE, unsafe: log 3. -/
abbrev Config.blankPixel : Pixel := 0x00000000

/-- `rom_read(cs, addr)` of a supplied cartridge (R78): uninterpreted, log 11. -/
opaque Config.cartRomRead : Nat → Word → Byte
/-- `rom_write(cs, addr, v)` of a supplied cartridge (R78): uninterpreted, log 11. -/
opaque Config.cartRomWrite : Nat → Word → Byte → Nat
/-- `ram_read(cs, addr)` of a supplied cartridge (R78): uninterpreted, log 11. -/
opaque Config.cartRamRead : Nat → Word → Byte
/-- `ram_write(cs, addr, v)` of a supplied cartridge (R78): uninterpreted, log 11. -/
opaque Config.cartRamWrite : Nat → Word → Byte → Nat
/-- `read(es, addr)` of a supplied external unit (R88): uninterpreted, log 12. -/
opaque Config.extRead : Nat → Word → Byte
/-- `write(es, addr, v)` of a supplied external unit (R88): uninterpreted, log 12. -/
opaque Config.extWrite : Nat → Word → Byte → Nat
/-- `poll(es)` of a supplied external unit (R488): bit 0 asks for interrupt 3 (serial), bit 1 for
interrupt 4 (joypad), beside the unit's next state. Uninterpreted, log 12. -/
opaque Config.extPoll : Nat → BitVec 2 × Nat

end Sys2Proof
end

