-- ==== Sys2Proof/Machine/State.lean ====
section
/-! DEFINITION. The state of the machine (10_state.md), as plain data, and its value after reset (R60). The launch
parameters, the cartridge and the external unit stand in it too (R62, R541; log 1), so that a claim about every state
holds for every launch. -/

namespace Sys2Proof.Machine

/-- A memory array: its cells at strictly rising addresses, none of them the unlisted byte (log 16). -/
abbrev Memory := List Host.Cell

/-- `MONO_PALETTE[0..3]` (R447): the pixel of each shade. -/
structure MonoPalette where
  shade0 : Pixel
  shade1 : Pixel
  shade2 : Pixel
  shade3 : Pixel
deriving DecidableEq, Repr

/-- The launch parameters that are plain values (R8, R541). `intServiceCycles` is `INT_SERVICE_CYCLES`, open by decision D7.
`rgbOverrides` lists the 15-bit colours whose pixel
differs from the default conversion of R448, so that any `rgb15_to_pixel` is a value of it (log 13). -/
structure Launch where
  variant : Variant
  doubleSpeed : Bool
  unmappedPolicy : UnmappedPolicy
  intServiceCycles : Nat
  monoPalette : MonoPalette
  rgbOverrides : List (Nat × Pixel)
deriving DecidableEq, Repr

/-- The defaults of R8 and R447. -/
def Launch.default : Launch where
  variant := .dmg
  doubleSpeed := false
  unmappedPolicy := .fatal
  intServiceCycles := Config.defaultIntServiceCycles
  monoPalette := { shade0 := 0xFFFFFFFF, shade1 := 0xFFAAAAAA, shade2 := 0xFF555555, shade3 := 0xFF000000 }
  rgbOverrides := []

/-- The cartridge (R78): the default one without a controller and its ROM image (R79), or a supplied one in its
state `cs`, whose behaviour is uninterpreted (log 11). -/
inductive Cart where
  | noController (rom : Memory)
  | supplied (cs : Nat)
deriving DecidableEq, Repr

/-- The external unit (R88, R488): the default one, which answers 0xFF and ignores writes, with the stream of its
poll answers still to come (empty: it never requests again), or a supplied one in its state `es` (log 12). -/
inductive ExtUnit where
  | scripted (polls : List (BitVec 2))
  | supplied (es : Nat)
deriving DecidableEq, Repr

/-- The three fatal conditions and their info (R506). A step that raises one records it in `State.fault` (R505);
a step of a machine whose `fault` is set answers it as `Outcome.fault` (log 6). -/
inductive Fault where
  /-- Raised by decoding one of the eleven illegal opcodes (R305, R503). Safe: the machine stops as the spec says. -/
  | unmappedOpcode (op : Byte) (pc : Word)
  /-- Raised by STOP (R302). Safe: the spec gives it no other effect. -/
  | unimplementedOpcode (op : Byte) (pc : Word)
  /-- Raised by a bus access to an unmapped I/O address under the fatal policy (R91), whoever makes it. Safe. -/
  | unmappedAddress (addr : Word) (isWrite : Bool)
deriving DecidableEq, Repr

/-- Why a step may be refused. No meaning refuses: every row of the opcode table is modelled. -/
inductive Refusal where
  /-- Raised by no arm of `exec` (every instruction has its meaning). Safe. -/
  | notModelled (mnemonic : String)
deriving DecidableEq, Repr

/-- The CPU's registers and hidden bits (R20 to R27), and the cost the last CPU step reported (`cycles <- n`,
R11; log 5). -/
structure Cpu where
  a : Byte
  f : Byte
  b : Byte
  c : Byte
  d : Byte
  e : Byte
  h : Byte
  l : Byte
  sp : Word
  pc : Word
  ime : Bool
  halted : Bool
  cycles : Nat
deriving DecidableEq, Repr

/-- The timer (R33 to R37). -/
structure Timer where
  div : Byte
  tima : Byte
  tma : Byte
  tac : Byte
  divAcc : Nat
  timaAcc : Nat
deriving DecidableEq, Repr

/-- The VRAM DMA engine (R48, CGB only): HDMA1 to HDMA4 as last written, and the transfer in progress. -/
structure Hdma where
  srcHi : Byte
  srcLo : Byte
  dstHi : Byte
  dstLo : Byte
  active : Bool
  src : Word
  dst : Word
  remaining : Nat
deriving DecidableEq, Repr

/-- One rendered line of 160 pixels (R58). -/
abbrev Row := Vector Pixel 160

/-- A frame: 144 lines (R58). -/
abbrev Frame := Vector Row 144

/-- The PPU's registers and output (R38 to R49, R58). -/
structure Ppu where
  lcdc : Byte
  stat : Byte
  scy : Byte
  scx : Byte
  ly : Byte
  lyc : Byte
  dma : Byte
  bgp : Byte
  obp0 : Byte
  obp1 : Byte
  wy : Byte
  wx : Byte
  cycles : Nat
  vbk : BitVec 1
  hdma : Hdma
  bcps : Byte
  ocps : Byte
  framebuffer : Frame
  framesOut : List Frame
deriving DecidableEq, Repr

/-- The RAM arrays (R49, R53 to R57): bank `b`, index `i` of `vram` is cell `0x2000 * b + i`, of `wram`
cell `0x1000 * b + i`. -/
structure Mem where
  vram : Memory
  wram : Memory
  oam : Memory
  hram : Memory
  snd : Memory
  bgPal : Memory
  objPal : Memory
deriving DecidableEq, Repr

/-- The whole machine. -/
structure State where
  launch : Launch
  cart : Cart
  ext : ExtUnit
  cpu : Cpu
  ifReg : BitVec 5
  ie : Byte
  timer : Timer
  ppu : Ppu
  svbk : BitVec 3
  mem : Mem
  fault : Option Fault
deriving DecidableEq, Repr

/-- The three outcomes of a step of this machine. -/
abbrev Result := Host.Outcome State Fault Refusal

/-- RAM arrays with nothing listed. -/
def Mem.empty : Mem := ⟨[], [], [], [], [], [], []⟩

/-- A frame of blank pixels (log 3). -/
def Frame.blank : Frame := Vector.replicate 144 (Vector.replicate 160 Config.blankPixel)

/-- The CPU registers after reset, for each variant (R60). -/
def Cpu.reset : Variant → Cpu
  | .dmg => { a := 0x01, f := 0xB0, b := 0x00, c := 0x13, d := 0x00, e := 0xD8, h := 0x01, l := 0x4D,
              sp := 0xFFFE, pc := 0x0100, ime := false, halted := false, cycles := 0 }
  | .cgb => { a := 0x11, f := 0x80, b := 0x00, c := 0x00, d := 0xFF, e := 0x56, h := 0x00, l := 0x0D,
              sp := 0xFFFE, pc := 0x0100, ime := false, halted := false, cycles := 0 }

/-- The timer after reset (R60). -/
def Timer.reset : Timer := { div := 0, tima := 0, tma := 0, tac := 0, divAcc := 0, timaAcc := 0 }

/-- The VRAM DMA engine after reset (R60; the latched addresses: log 4). -/
def Hdma.reset : Hdma :=
  { srcHi := 0xFF, srcLo := 0xFF, dstHi := 0xFF, dstLo := 0xFF, active := false, src := 0, dst := 0, remaining := 0 }

/-- The PPU after reset (R60), with the frame buffer that INIT_RAM gives (R61). -/
def Ppu.reset (fb : Frame) : Ppu :=
  { lcdc := 0x91, stat := 0x06, scy := 0, scx := 0, ly := 0, lyc := 0, dma := 0, bgp := 0xFC, obp0 := 0xFF,
    obp1 := 0xFF, wy := 0, wx := 0, cycles := 0, vbk := 0, hdma := Hdma.reset, bcps := 0, ocps := 0,
    framebuffer := fb, framesOut := [] }

/-- The state after reset for any launch arguments (R541): the parameters, the cartridge, the external unit, and
INIT_RAM (`m` and `fb`). -/
def State.launched (p : Launch) (cart : Cart) (ext : ExtUnit) (m : Mem) (fb : Frame) : State :=
  { launch := p, cart := cart, ext := ext, cpu := Cpu.reset p.variant, ifReg := 0, ie := 0, timer := Timer.reset,
    ppu := Ppu.reset fb, svbk := 0, mem := m, fault := none }

/-- The machine right after reset (R60, R540) with the default launch arguments of R8: no program is loaded
(log 14) and INIT_RAM is all zero (log 2, log 3). -/
def State.reset : State :=
  State.launched Launch.default (.noController []) (.scripted []) Mem.empty Frame.blank

end Sys2Proof.Machine
end

