-- ==== Sys2Proof/Machine/Memory.lean ====
section
/-! DEFINITION. The canonical memory lists: reading and writing one cell, and the canonical form (log 16). -/

namespace Sys2Proof.Machine

/-- The byte of cell `a`; a cell no entry lists reads as `Config.unlistedByte` (log 2). -/
def Memory.read : Memory → Nat → Byte
  | [], _ => Config.unlistedByte
  | (k, v) :: rest, a => if k = a then v else Memory.read rest a

/-- Store `v` in cell `a`, keeping the list canonical. -/
def Memory.write : Memory → Nat → Byte → Memory
  | [], a, v => if v = Config.unlistedByte then [] else [(a, v)]
  | (k, w) :: rest, a, v =>
    if a < k then
      if v = Config.unlistedByte then (k, w) :: rest else (a, v) :: (k, w) :: rest
    else if a = k then
      if v = Config.unlistedByte then rest else (a, v) :: rest
    else (k, w) :: Memory.write rest a v

/-- The entries from address `low` on are canonical: strictly rising addresses below `size`, no entry the
unlisted byte. -/
def Memory.wfFrom (size : Nat) : Nat → Memory → Bool
  | _, [] => true
  | low, (k, v) :: rest =>
    decide (low ≤ k) && decide (k < size) && decide (v ≠ Config.unlistedByte) && Memory.wfFrom size (k + 1) rest

/-- The canonical form of a memory array of `size` cells. -/
def Memory.wf (size : Nat) (m : Memory) : Bool := Memory.wfFrom size 0 m

/-- Cells of `vram`: 0x2000 a bank, one bank on DMG, two on CGB (R53). -/
def vramSize (v : Variant) : Nat := if v = .cgb then 0x4000 else 0x2000

/-- Cells of `wram`: 0x1000 a bank, two banks on DMG, eight on CGB (R54). -/
def wramSize (v : Variant) : Nat := if v = .cgb then 0x8000 else 0x2000

/-- All RAM arrays are canonical, of the sizes of R49 and R53 to R57. -/
def Mem.wf (v : Variant) (m : Mem) : Bool :=
  m.vram.wf (vramSize v) && m.wram.wf (wramSize v) && m.oam.wf 160 && m.hram.wf 127 && m.snd.wf 48 &&
    m.bgPal.wf 64 && m.objPal.wf 64

/-- The ROM image of the default cartridge is canonical (R79: 32768 bytes). -/
def Cart.wf : Cart → Bool
  | .noController rom => rom.wf 0x8000
  | .supplied _ => true

end Sys2Proof.Machine
end

