-- ==== Sys2Proof/Machine/Bits.lean ====
section
/-! DEFINITION. Bit fields, byte order and sign extension (00_scope.md R10). -/

namespace Sys2Proof.Machine

/-- `hi(w)`: bits 15 to 8 (R10). -/
def hi (w : Word) : Byte := w.extractLsb' 8 8

/-- `lo(w)`: bits 7 to 0 (R10). -/
def lo (w : Word) : Byte := w.extractLsb' 0 8

/-- `{h, l}`: the 16-bit concatenation, `h` the high byte (R10). -/
def pair (h l : Byte) : Word := h ++ l

/-- `sext_16(b)` (R10). -/
def sext16 (b : Byte) : Word := b.signExtend 16

/-- `zext_16(b)` (R10). -/
def zext16 (b : Byte) : Word := b.setWidth 16

/-- `v[i]`: bit `i` of a byte (R10). -/
def bit (v : Byte) (i : Nat) : Bool := v.getLsbD i

/-- One bit as a byte, 0 or 1, as the spec's formulas use it. -/
def bitByte (b : Bool) : Byte := if b then 1 else 0

/-- The field `op[7:6]` (R122). -/
def fieldX (op : Byte) : Nat := op.toNat / 64

/-- The field `op[5:3]` (R122). -/
def fieldY (op : Byte) : Nat := op.toNat / 8 % 8

/-- The field `op[2:0]` (R122). -/
def fieldZ (op : Byte) : Nat := op.toNat % 8

/-- The field `op[5:4]` (R122). -/
def fieldP (op : Byte) : Nat := op.toNat / 16 % 4

/-- The field `op[3]` (R122). -/
def fieldQ (op : Byte) : Nat := op.toNat / 8 % 2

end Sys2Proof.Machine
end

