-- ==== Sys2Proof/Machine/Form.lean ====
section
/-! DEFINITION. The operand selectors of 30_encoding.md R123 to R128 and the instruction FORMS: what an
opcode's fields select, one constructor per row of R131's and R132's field tables. `Instr` has one constructor per
opcode; `Instr.form` (Decode.lean) says which form each is. -/

namespace Sys2Proof.Machine

/-- The 8-bit registers that a 3-bit field selects (R123; the value 6 selects the byte at HL and is no register). -/
inductive Reg8 where
  | b | c | d | e | h | l | a
deriving DecidableEq, Repr

/-- `r16` (R124). -/
inductive Reg16 where
  | bc | de | hl | sp
deriving DecidableEq, Repr

/-- `r16s` (R125). -/
inductive Reg16S where
  | bc | de | hl | af
deriving DecidableEq, Repr

/-- `cc` (R126). -/
inductive Cond where
  | nz | z | nc | c
deriving DecidableEq, Repr

/-- `alu` (R127). -/
inductive AluOp where
  | add | adc | sub | sbc | and | xor | or | cp
deriving DecidableEq, Repr

/-- `rot` (R128). -/
inductive RotOp where
  | rlc | rrc | rl | rr | sla | sra | swap | srl
deriving DecidableEq, Repr

/-- The four accumulator rotates of the base table (R250 to R253). -/
inductive RotAOp where
  | rlca | rrca | rla | rra
deriving DecidableEq, Repr

/-- Where an accumulator load or store reads or writes (R150). -/
inductive AddrMode where
  | bc                 -- (BC)
  | de                 -- (DE)
  | hlInc              -- (HL+)
  | hlDec              -- (HL-)
  | abs (nn : Word)    -- (nn)
  | high (n : Byte)    -- (n) of LDH
  | highC              -- (C)
deriving DecidableEq, Repr

/-- The instruction forms, one constructor per row of the field tables of R131 and R132. -/
inductive Form where
  | nop | halt | di | ei
  | stop (skipped : Byte)
  | illegal (op : Byte)
  | ldRR (d s : Reg8)
  | ldRN (d : Reg8) (n : Byte)
  | ldRM (d : Reg8)
  | ldMR (s : Reg8)
  | ldMN (n : Byte)
  | ldA (m : AddrMode)
  | stA (m : AddrMode)
  | ldRRNN (rr : Reg16) (nn : Word)
  | stSP (nn : Word)
  | ldSPHL
  | ldHLSP (e : Byte)
  | push (rr : Reg16S)
  | pop (rr : Reg16S)
  | aluR (op : AluOp) (s : Reg8)
  | aluM (op : AluOp)
  | aluN (op : AluOp) (n : Byte)
  | incR (r : Reg8)
  | incM
  | decR (r : Reg8)
  | decM
  | daa | cpl | scf | ccf
  | addHL (rr : Reg16)
  | incRR (rr : Reg16)
  | decRR (rr : Reg16)
  | addSP (e : Byte)
  | rotA (op : RotAOp)
  | rotR (op : RotOp) (r : Reg8)
  | rotM (op : RotOp)
  | bitR (b : Nat) (r : Reg8)
  | bitM (b : Nat)
  | resR (b : Nat) (r : Reg8)
  | resM (b : Nat)
  | setR (b : Nat) (r : Reg8)
  | setM (b : Nat)
  | jp (nn : Word)
  | jpCC (cc : Cond) (nn : Word)
  | jpHL
  | jr (e : Byte)
  | jrCC (cc : Cond) (e : Byte)
  | call (nn : Word)
  | callCC (cc : Cond) (nn : Word)
  | ret
  | retCC (cc : Cond)
  | rst (t : Byte)
  | reti
deriving DecidableEq, Repr

/-- `r8[i]` as a register; `none` for 6, the byte at HL (R123). -/
def reg8Of (i : Nat) : Option Reg8 :=
  match i with
  | 0 => some .b
  | 1 => some .c
  | 2 => some .d
  | 3 => some .e
  | 4 => some .h
  | 5 => some .l
  | 7 => some .a
  | _ => none

/-- `r16[p]` (R124), for `p` at most 3. -/
def reg16Of (p : Nat) : Reg16 :=
  match p with
  | 0 => .bc
  | 1 => .de
  | 2 => .hl
  | _ => .sp

/-- `r16s[p]` (R125), for `p` at most 3. -/
def reg16SOf (p : Nat) : Reg16S :=
  match p with
  | 0 => .bc
  | 1 => .de
  | 2 => .hl
  | _ => .af

/-- `cc[i]` (R126), for `i` at most 3. -/
def condOf (i : Nat) : Cond :=
  match i with
  | 0 => .nz
  | 1 => .z
  | 2 => .nc
  | _ => .c

/-- `alu[y]` (R127), for `y` at most 7. -/
def aluOf (y : Nat) : AluOp :=
  match y with
  | 0 => .add
  | 1 => .adc
  | 2 => .sub
  | 3 => .sbc
  | 4 => .and
  | 5 => .xor
  | 6 => .or
  | _ => .cp

/-- `rot[y]` (R128), for `y` at most 7. -/
def rotOf (y : Nat) : RotOp :=
  match y with
  | 0 => .rlc
  | 1 => .rrc
  | 2 => .rl
  | 3 => .rr
  | 4 => .sla
  | 5 => .sra
  | 6 => .swap
  | _ => .srl

/-- The form of the CB-table row `op2`, read from its fields (R132). -/
def cbForm (op2 : Byte) : Form :=
  let y := fieldY op2
  match fieldX op2, reg8Of (fieldZ op2) with
  | 0, some r => .rotR (rotOf y) r
  | 0, none => .rotM (rotOf y)
  | 1, some r => .bitR y r
  | 1, none => .bitM y
  | 2, some r => .resR y r
  | 2, none => .resM y
  | _, some r => .setR y r
  | _, none => .setM y

/-- The form of the base opcode `op` followed by the bytes `b1`, `b2`, read from its fields (R131); the prefix
byte 0xCB selects the CB table (R130) and the eleven values of R133 are illegal. -/
def baseForm (op b1 b2 : Byte) : Form :=
  let y := fieldY op
  let z := fieldZ op
  let p := fieldP op
  let q := fieldQ op
  let nn := pair b2 b1
  match fieldX op with
  | 0 =>
    match z with
    | 0 =>
      match y with
      | 0 => .nop
      | 1 => .stSP nn
      | 2 => .stop b1
      | 3 => .jr b1
      | _ => .jrCC (condOf (y - 4)) b1
    | 1 => if q = 0 then .ldRRNN (reg16Of p) nn else .addHL (reg16Of p)
    | 2 =>
      let m : AddrMode := match p with
        | 0 => .bc
        | 1 => .de
        | 2 => .hlInc
        | _ => .hlDec
      if q = 0 then .stA m else .ldA m
    | 3 => if q = 0 then .incRR (reg16Of p) else .decRR (reg16Of p)
    | 4 =>
      match reg8Of y with
      | some r => .incR r
      | none => .incM
    | 5 =>
      match reg8Of y with
      | some r => .decR r
      | none => .decM
    | 6 =>
      match reg8Of y with
      | some r => .ldRN r b1
      | none => .ldMN b1
    | _ =>
      match y with
      | 0 => .rotA .rlca
      | 1 => .rotA .rrca
      | 2 => .rotA .rla
      | 3 => .rotA .rra
      | 4 => .daa
      | 5 => .cpl
      | 6 => .scf
      | _ => .ccf
  | 1 =>
    match reg8Of y, reg8Of z with
    | some d, some s => .ldRR d s
    | some d, none => .ldRM d
    | none, some s => .ldMR s
    | none, none => .halt
  | 2 =>
    match reg8Of z with
    | some s => .aluR (aluOf y) s
    | none => .aluM (aluOf y)
  | _ =>
    match z with
    | 0 =>
      match y with
      | 4 => .stA (.high b1)
      | 5 => .addSP b1
      | 6 => .ldA (.high b1)
      | 7 => .ldHLSP b1
      | _ => .retCC (condOf y)
    | 1 =>
      if q = 0 then .pop (reg16SOf p)
      else
        match p with
        | 0 => .ret
        | 1 => .reti
        | 2 => .jpHL
        | _ => .ldSPHL
    | 2 =>
      match y with
      | 4 => .stA .highC
      | 5 => .stA (.abs nn)
      | 6 => .ldA .highC
      | 7 => .ldA (.abs nn)
      | _ => .jpCC (condOf y) nn
    | 3 =>
      match y with
      | 0 => .jp nn
      | 1 => cbForm b1
      | 6 => .di
      | 7 => .ei
      | _ => .illegal op
    | 4 => if y < 4 then .callCC (condOf y) nn else .illegal op
    | 5 =>
      if q = 0 then .push (reg16SOf p)
      else if p = 0 then .call nn
      else .illegal op
    | 6 => .aluN (aluOf y) b1
    | _ => .rst (BitVec.ofNat 8 (y * 8))

end Sys2Proof.Machine
end

