-- ==== Sys2Proof/Machine/Operands.lean ====
section
/-! DEFINITION. The register operands (R20 to R25, R123 to R125), the flags of `F` (R25, R11) and the conditions
(R126, R280). Every register read and write of the CPU goes through these. -/

namespace Sys2Proof.Machine

/-- Read an 8-bit register (R20, R123). -/
def getR8 (s : State) : Reg8 → Byte
  | .b => s.cpu.b
  | .c => s.cpu.c
  | .d => s.cpu.d
  | .e => s.cpu.e
  | .h => s.cpu.h
  | .l => s.cpu.l
  | .a => s.cpu.a

/-- Write an 8-bit register (R20, R123). -/
def setR8 (s : State) (r : Reg8) (v : Byte) : State :=
  match r with
  | .b => { s with cpu := { s.cpu with b := v } }
  | .c => { s with cpu := { s.cpu with c := v } }
  | .d => { s with cpu := { s.cpu with d := v } }
  | .e => { s with cpu := { s.cpu with e := v } }
  | .h => { s with cpu := { s.cpu with h := v } }
  | .l => { s with cpu := { s.cpu with l := v } }
  | .a => { s with cpu := { s.cpu with a := v } }

/-- The pair `BC` (R21). -/
def getBC (s : State) : Word := pair s.cpu.b s.cpu.c

/-- The pair `DE` (R21). -/
def getDE (s : State) : Word := pair s.cpu.d s.cpu.e

/-- The pair `HL` (R21). -/
def getHL (s : State) : Word := pair s.cpu.h s.cpu.l

/-- The pair `AF` (R21). -/
def getAF (s : State) : Word := pair s.cpu.a s.cpu.f

/-- Write `BC` (R11). -/
def setBC (s : State) (w : Word) : State := { s with cpu := { s.cpu with b := hi w, c := lo w } }

/-- Write `DE` (R11). -/
def setDE (s : State) (w : Word) : State := { s with cpu := { s.cpu with d := hi w, e := lo w } }

/-- Write `HL` (R11). -/
def setHL (s : State) (w : Word) : State := { s with cpu := { s.cpu with h := hi w, l := lo w } }

/-- Write `AF`: the low nibble of `F` stays zero (R11, R22). -/
def setAF (s : State) (w : Word) : State := { s with cpu := { s.cpu with a := hi w, f := lo w &&& 0xF0 } }

/-- Write `SP` (R23). -/
def setSP (s : State) (w : Word) : State := { s with cpu := { s.cpu with sp := w } }

/-- Read `r16[p]` (R124). -/
def getR16 (s : State) : Reg16 → Word
  | .bc => getBC s
  | .de => getDE s
  | .hl => getHL s
  | .sp => s.cpu.sp

/-- Write `r16[p]` (R124). -/
def setR16 (s : State) (r : Reg16) (w : Word) : State :=
  match r with
  | .bc => setBC s w
  | .de => setDE s w
  | .hl => setHL s w
  | .sp => setSP s w

/-- Read `r16s[p]` (R125). -/
def getR16S (s : State) : Reg16S → Word
  | .bc => getBC s
  | .de => getDE s
  | .hl => getHL s
  | .af => getAF s

/-- Write `r16s[p]` (R125, R185). -/
def setR16S (s : State) (r : Reg16S) (w : Word) : State :=
  match r with
  | .bc => setBC s w
  | .de => setDE s w
  | .hl => setHL s w
  | .af => setAF s w

/-- Flag `Z`, bit 7 of `F` (R25). -/
def flagZ (s : State) : Bool := bit s.cpu.f 7

/-- Flag `N`, bit 6 of `F` (R25). -/
def flagN (s : State) : Bool := bit s.cpu.f 6

/-- Flag `H`, bit 5 of `F` (R25). -/
def flagH (s : State) : Bool := bit s.cpu.f 5

/-- Flag `C`, bit 4 of `F` (R25). -/
def flagC (s : State) : Bool := bit s.cpu.f 4

/-- `z*0x80 + n*0x40 + h*0x20 + c*0x10` (R11). -/
def flagsByte (z n h c : Bool) : Byte :=
  (if z then 0x80 else 0) + (if n then 0x40 else 0) + (if h then 0x20 else 0) + (if c then 0x10 else 0)

/-- `F <- flags(z, n, h, c)` (R11). -/
def setF (s : State) (f : Byte) : State := { s with cpu := { s.cpu with f := f } }

/-- `cond(cc)` (R126, R280). -/
def condHolds (s : State) : Cond → Bool
  | .nz => !flagZ s
  | .z => flagZ s
  | .nc => !flagC s
  | .c => flagC s

/-- `PC <- (PC0 + len) mod 2^16; cycles <- cost`, the end of every non-branching rule (R24, R11). -/
def advance (len : Word) (cost : Nat) (s : State) : State :=
  { s with cpu := { s.cpu with pc := s.cpu.pc + len, cycles := cost } }

/-- `PC <- target; cycles <- cost`, the end of every taken branch (R24, R11). -/
def jumpTo (target : Word) (cost : Nat) (s : State) : State :=
  { s with cpu := { s.cpu with pc := target, cycles := cost } }

end Sys2Proof.Machine
end

