-- ==== Sys2Proof/Machine/Bus.lean ====
section
/-! DEFINITION. The memory bus (20_memory.md), the register operations behind it (47_ppu_registers.md,
60_exceptions.md R482 to R485 and R514 to R517) and the two DMA engines (47 R329, R340 to R345). -/

namespace Sys2Proof.Machine

/-- The registers of the I/O window (R30, R89). -/
inductive IoReg where
  | div | tima | tma | tac | ifr
  | lcdc | stat | scy | scx | ly | lyc | dma | bgp | obp0 | obp1 | wy | wx
  | vbk | hdma1 | hdma2 | hdma3 | hdma4 | hdma5 | bcps | bcpd | ocps | ocpd | svbk
deriving DecidableEq, Repr

/-- What stands behind a bus address: the one handler that decoding selects (R70, R71), with the cell. -/
inductive Loc where
  | cartRom (addr : Nat)
  | cartRam (addr : Nat)
  | vram (i : Nat)
  | wram (i : Nat)
  | oam (i : Nat)
  | hram (i : Nat)
  | snd (i : Nat)
  | none
  | ext (addr : Nat)
  | io (r : IoReg)
  | unmapped (addr : Nat)
  | ie
deriving DecidableEq, Repr

/-- The VRAM bank the bus reaches: `VBK[0]` on CGB, 0 on DMG (R76). -/
def vramBank (s : State) : Nat :=
  match s.launch.variant with
  | .cgb => s.ppu.vbk.toNat
  | .dmg => 0

/-- The work-RAM bank at 0xD000: 1 on DMG; on CGB `SVBK[2:0]`, or 1 if that is 0 (R83). -/
def wramBank (s : State) : Nat :=
  match s.launch.variant with
  | .cgb => if s.svbk = 0 then 1 else s.svbk.toNat
  | .dmg => 1

/-- Work RAM at `n` from 0xC000 to 0xDFFF (R82, R83). -/
def locateWram (s : State) (n : Nat) : Loc :=
  if n < 0xD000 then .wram (n - 0xC000) else .wram (wramBank s * 0x1000 + (n - 0xD000))

/-- A register that exists on CGB only; on DMG its address is unmapped (R92). -/
def cgbReg (v : Variant) (r : IoReg) (n : Nat) : Loc :=
  match v with
  | .cgb => .io r
  | .dmg => .unmapped n

/-- The PPU's part of the I/O window, 0xFF40 to 0xFF4B (R89). -/
def ppuReg (n : Nat) : IoReg :=
  if n = 0xFF40 then .lcdc
  else if n = 0xFF41 then .stat
  else if n = 0xFF42 then .scy
  else if n = 0xFF43 then .scx
  else if n = 0xFF44 then .ly
  else if n = 0xFF45 then .lyc
  else if n = 0xFF46 then .dma
  else if n = 0xFF47 then .bgp
  else if n = 0xFF48 then .obp0
  else if n = 0xFF49 then .obp1
  else if n = 0xFF4A then .wy
  else .wx

/-- Sub-dispatch of the I/O window, `n` from 0xFF00 to 0xFF7F (R89); an address in no row is unmapped (R91). -/
def locateIo (v : Variant) (n : Nat) : Loc :=
  if n < 0xFF03 then .ext n
  else if n < 0xFF04 then .unmapped n
  else if n = 0xFF04 then .io .div
  else if n = 0xFF05 then .io .tima
  else if n = 0xFF06 then .io .tma
  else if n = 0xFF07 then .io .tac
  else if n < 0xFF0F then .unmapped n
  else if n = 0xFF0F then .io .ifr
  else if n < 0xFF40 then .snd (n - 0xFF10)
  else if n < 0xFF4C then .io (ppuReg n)
  else if n = 0xFF4F then cgbReg v .vbk n
  else if n = 0xFF51 then cgbReg v .hdma1 n
  else if n = 0xFF52 then cgbReg v .hdma2 n
  else if n = 0xFF53 then cgbReg v .hdma3 n
  else if n = 0xFF54 then cgbReg v .hdma4 n
  else if n = 0xFF55 then cgbReg v .hdma5 n
  else if n = 0xFF68 then cgbReg v .bcps n
  else if n = 0xFF69 then cgbReg v .bcpd n
  else if n = 0xFF6A then cgbReg v .ocps n
  else if n = 0xFF6B then cgbReg v .ocpd n
  else if n = 0xFF70 then cgbReg v .svbk n
  else .unmapped n

/-- Address decoding, total over the 16-bit addresses (R70, R71). -/
def locate (s : State) (addr : Word) : Loc :=
  let n := addr.toNat
  if n < 0x8000 then .cartRom n
  else if n < 0xA000 then .vram (vramBank s * 0x2000 + (n - 0x8000))
  else if n < 0xC000 then .cartRam n
  else if n < 0xE000 then locateWram s n
  else if n < 0xFE00 then locateWram s (n - 0x2000)
  else if n < 0xFEA0 then .oam (n - 0xFE00)
  else if n < 0xFF00 then .none
  else if n < 0xFF80 then locateIo s.launch.variant n
  else if n < 0xFFFF then .hram (n - 0xFF80)
  else .ie

/-- `request(i)`: OR a bit into `IF` (R481). -/
def request (i : Nat) (s : State) : State := { s with ifReg := s.ifReg ||| ((1 : BitVec 5) <<< i) }

/-- `Cart.rom_read` (R74, R78, R79). -/
def cartRomRead (s : State) (addr : Nat) : Byte :=
  match s.cart with
  | .noController rom => rom.read addr
  | .supplied cs => Config.cartRomRead cs (BitVec.ofNat 16 addr)

/-- `Cart.rom_write` (R75, R78, R79): dropped by the default cartridge. -/
def cartRomWrite (s : State) (addr : Nat) (v : Byte) : State :=
  match s.cart with
  | .noController _ => s
  | .supplied cs => { s with cart := .supplied (Config.cartRomWrite cs (BitVec.ofNat 16 addr) v) }

/-- `Cart.ram_read` (R77, R79): the default cartridge has no RAM. -/
def cartRamRead (s : State) (addr : Nat) : Byte :=
  match s.cart with
  | .noController _ => Config.openBus
  | .supplied cs => Config.cartRamRead cs (BitVec.ofNat 16 addr)

/-- `Cart.ram_write` (R77, R79). -/
def cartRamWrite (s : State) (addr : Nat) (v : Byte) : State :=
  match s.cart with
  | .noController _ => s
  | .supplied cs => { s with cart := .supplied (Config.cartRamWrite cs (BitVec.ofNat 16 addr) v) }

/-- `Ext.read` (R88). -/
def extRead (s : State) (addr : Nat) : Byte :=
  match s.ext with
  | .scripted _ => Config.openBus
  | .supplied es => Config.extRead es (BitVec.ofNat 16 addr)

/-- `Ext.write` (R88). -/
def extWrite (s : State) (addr : Nat) (v : Byte) : State :=
  match s.ext with
  | .scripted _ => s
  | .supplied es => { s with ext := .supplied (Config.extWrite es (BitVec.ofNat 16 addr) v) }

/-- The byte index of a palette index register: bits 5 to 0 (R346). -/
def palIndex (ps : Byte) : Nat := ps.toNat % 64

/-- The palette index register after a data write: it counts up, modulo 64, if bit 7 is set (R347). -/
def palNext (ps : Byte) : Byte := if bit ps 7 then 0x80 ||| BitVec.ofNat 8 ((palIndex ps + 1) % 64) else ps

/-- Read of `HDMA5` (R343). -/
def hdma5Read (d : Hdma) : Byte :=
  let left := (BitVec.ofNat 8 d.remaining - 1) &&& 0x7F
  if d.active then left else if d.remaining = 0 then 0xFF else 0x80 ||| left

/-- Read of an I/O register (R482, R514 to R517, R321 to R349, R84). No read has a side effect (R99). -/
def ioRead (s : State) : IoReg → Byte
  | .div => s.timer.div
  | .tima => s.timer.tima
  | .tma => s.timer.tma
  | .tac => s.timer.tac
  | .ifr => s.ifReg.setWidth 8
  | .lcdc => s.ppu.lcdc
  | .stat => s.ppu.stat
  | .scy => s.ppu.scy
  | .scx => s.ppu.scx
  | .ly => s.ppu.ly
  | .lyc => s.ppu.lyc
  | .dma => s.ppu.dma
  | .bgp => s.ppu.bgp
  | .obp0 => s.ppu.obp0
  | .obp1 => s.ppu.obp1
  | .wy => s.ppu.wy
  | .wx => s.ppu.wx
  | .vbk => 0xFE ||| s.ppu.vbk.setWidth 8
  | .hdma1 => 0xFF
  | .hdma2 => 0xFF
  | .hdma3 => 0xFF
  | .hdma4 => 0xFF
  | .hdma5 => hdma5Read s.ppu.hdma
  | .bcps => s.ppu.bcps ||| 0x40
  | .bcpd => s.mem.bgPal.read (palIndex s.ppu.bcps)
  | .ocps => s.ppu.ocps ||| 0x40
  | .ocpd => s.mem.objPal.read (palIndex s.ppu.ocps)
  | .svbk => 0xF8 ||| s.svbk.setWidth 8

/-- `MemRead(addr, 1)` (R72): the byte its handler gives, or `Fatal` on an unmapped address under the fatal
policy (R91). It changes no state. -/
def memRead (s : State) (addr : Word) : Except Fault Byte :=
  match locate s addr with
  | .cartRom n => .ok (cartRomRead s n)
  | .cartRam n => .ok (cartRamRead s n)
  | .vram i => .ok (s.mem.vram.read i)
  | .wram i => .ok (s.mem.wram.read i)
  | .oam i => .ok (s.mem.oam.read i)
  | .hram i => .ok (s.mem.hram.read i)
  | .snd i => .ok (s.mem.snd.read i)
  | .none => .ok Config.openBus
  | .ext n => .ok (extRead s n)
  | .io r => .ok (ioRead s r)
  | .ie => .ok s.ie
  | .unmapped _ =>
    match s.launch.unmappedPolicy with
    | .fatal => .error (.unmappedAddress addr false)
    | .sentinel => .ok Config.openBus

/-- Store a byte of VRAM (R76). -/
def setVram (s : State) (i : Nat) (v : Byte) : State := { s with mem := { s.mem with vram := s.mem.vram.write i v } }

/-- Store a byte of work RAM (R82, R83). -/
def setWram (s : State) (i : Nat) (v : Byte) : State := { s with mem := { s.mem with wram := s.mem.wram.write i v } }

/-- Store a byte of OAM (R86). -/
def setOam (s : State) (i : Nat) (v : Byte) : State := { s with mem := { s.mem with oam := s.mem.oam.write i v } }

/-- Store a byte of high RAM (R95). -/
def setHram (s : State) (i : Nat) (v : Byte) : State := { s with mem := { s.mem with hram := s.mem.hram.write i v } }

/-- Store a byte of sound storage (R90). -/
def setSnd (s : State) (i : Nat) (v : Byte) : State := { s with mem := { s.mem with snd := s.mem.snd.write i v } }

/-- The loop of the OAM DMA: `k` bytes from index `i` on, each source byte read through the bus (R329). -/
def oamDmaCopy : Nat → Nat → Word → State → Except Fault State
  | 0, _, _, s => .ok s
  | k + 1, i, base, s =>
    match memRead s (base + BitVec.ofNat 16 i) with
    | .error f => .error f
    | .ok v => oamDmaCopy k (i + 1) base (setOam s i v)

/-- `DMA` write (R329): store the value; if it is not 0, copy 160 bytes from page `v` into OAM. -/
def dmaWrite (s : State) (v : Byte) : Except Fault State :=
  let s1 := { s with ppu := { s.ppu with dma := v } }
  if v = 0 then .ok s1 else oamDmaCopy 160 0 (pair v 0) s1

/-- `src0` (R340). -/
def hdmaSrc0 (d : Hdma) : Word := pair d.srcHi d.srcLo &&& 0xFFF0

/-- `dst0`: an offset into VRAM (R340). -/
def hdmaDst0 (d : Hdma) : Word := pair d.dstHi d.dstLo &&& 0x1FF0

/-- The loop of `copy_chunk`: `k` bytes from byte `i` on, into the bank of `VBK` (R345). -/
def copyBytes : Nat → Nat → Word → Word → State → Except Fault State
  | 0, _, _, _, s => .ok s
  | k + 1, i, src, dst, s =>
    match memRead s (src + BitVec.ofNat 16 i) with
    | .error f => .error f
    | .ok v => copyBytes k (i + 1) src dst (setVram s (s.ppu.vbk.toNat * 0x2000 + (dst.toNat + i) % 0x2000) v)

/-- `copy_chunk(s, d)`: 16 bytes (R345). -/
def copyChunk (src dst : Word) (s : State) : Except Fault State := copyBytes 16 0 src dst s

/-- The next VRAM offset: `(d + 16) mod 0x2000` (R342, R344). -/
def nextDst (dst : Word) : Word := BitVec.ofNat 16 ((dst.toNat + 16) % 0x2000)

/-- General VRAM DMA: `n` chunks at once (R342). -/
def copyChunks : Nat → Word → Word → State → Except Fault State
  | 0, _, _, s => .ok s
  | n + 1, src, dst, s =>
    match copyChunk src dst s with
    | .error f => .error f
    | .ok t => copyChunks n (src + 16) (nextDst dst) t

/-- Replace the VRAM DMA engine's state. -/
def setHdma (s : State) (d : Hdma) : State := { s with ppu := { s.ppu with hdma := d } }

/-- `HDMA5` write (R341, R342): copy at once, cancel, or arm. -/
def hdma5Write (s : State) (v : Byte) : Except Fault State :=
  let n := v.toNat % 128 + 1
  let d := s.ppu.hdma
  if bit v 7 then
    .ok (setHdma s { d with src := hdmaSrc0 d, dst := hdmaDst0 d, remaining := n, active := true })
  else if d.active then .ok (setHdma s { d with active := false })
  else
    match copyChunks n (hdmaSrc0 d) (hdmaDst0 d) s with
    | .error f => .error f
    | .ok t => .ok (setHdma t { t.ppu.hdma with remaining := 0 })

/-- Write of an I/O register (R483, R514 to R517, R322 to R349, R84). -/
def ioWrite (s : State) (r : IoReg) (v : Byte) : Except Fault State :=
  match r with
  | .div => .ok { s with timer := { s.timer with div := 0 } }
  | .tima => .ok { s with timer := { s.timer with tima := v } }
  | .tma => .ok { s with timer := { s.timer with tma := v } }
  | .tac => .ok { s with timer := { s.timer with tac := v } }
  | .ifr => .ok { s with ifReg := v.setWidth 5 }
  | .lcdc => .ok { s with ppu := { s.ppu with lcdc := v } }
  | .stat => .ok { s with ppu := { s.ppu with stat := (s.ppu.stat &&& 0x07) ||| (v &&& 0xF8) } }
  | .scy => .ok { s with ppu := { s.ppu with scy := v } }
  | .scx => .ok { s with ppu := { s.ppu with scx := v } }
  | .ly => .ok { s with ppu := { s.ppu with ly := 0 } }
  | .lyc => .ok { s with ppu := { s.ppu with lyc := v } }
  | .dma => dmaWrite s v
  | .bgp => .ok { s with ppu := { s.ppu with bgp := v } }
  | .obp0 => .ok { s with ppu := { s.ppu with obp0 := v } }
  | .obp1 => .ok { s with ppu := { s.ppu with obp1 := v } }
  | .wy => .ok { s with ppu := { s.ppu with wy := v } }
  | .wx => .ok { s with ppu := { s.ppu with wx := v } }
  | .vbk => .ok { s with ppu := { s.ppu with vbk := v.setWidth 1 } }
  | .hdma1 => .ok (setHdma s { s.ppu.hdma with srcHi := v })
  | .hdma2 => .ok (setHdma s { s.ppu.hdma with srcLo := v })
  | .hdma3 => .ok (setHdma s { s.ppu.hdma with dstHi := v })
  | .hdma4 => .ok (setHdma s { s.ppu.hdma with dstLo := v })
  | .hdma5 => hdma5Write s v
  | .bcps => .ok { s with ppu := { s.ppu with bcps := v &&& 0xBF } }
  | .bcpd => .ok { s with mem := { s.mem with bgPal := s.mem.bgPal.write (palIndex s.ppu.bcps) v },
                          ppu := { s.ppu with bcps := palNext s.ppu.bcps } }
  | .ocps => .ok { s with ppu := { s.ppu with ocps := v &&& 0xBF } }
  | .ocpd => .ok { s with mem := { s.mem with objPal := s.mem.objPal.write (palIndex s.ppu.ocps) v },
                          ppu := { s.ppu with ocps := palNext s.ppu.ocps } }
  | .svbk => .ok { s with svbk := v.setWidth 3 }

/-- `MemWrite(addr, 1, v)` (R73): what its handler does, or `Fatal` on an unmapped address under the fatal
policy (R91). -/
def memWrite (s : State) (addr : Word) (v : Byte) : Except Fault State :=
  match locate s addr with
  | .cartRom n => .ok (cartRomWrite s n v)
  | .cartRam n => .ok (cartRamWrite s n v)
  | .vram i => .ok (setVram s i v)
  | .wram i => .ok (setWram s i v)
  | .oam i => .ok (setOam s i v)
  | .hram i => .ok (setHram s i v)
  | .snd i => .ok (setSnd s i v)
  | .none => .ok s
  | .ext n => .ok (extWrite s n v)
  | .io r => ioWrite s r v
  | .ie => .ok { s with ie := v }
  | .unmapped _ =>
    match s.launch.unmappedPolicy with
    | .fatal => .error (.unmappedAddress addr true)
    | .sentinel => .ok s

/-- `MemWrite(addr, 2, w)`: the low byte first (R94). -/
def memWrite16 (s : State) (addr : Word) (w : Word) : Except Fault State :=
  match memWrite s addr (lo w) with
  | .error f => .error f
  | .ok t => memWrite t (addr + 1) (hi w)

/-- `MemRead(addr, 2)`: the low byte first (R93). -/
def memRead16 (s : State) (addr : Word) : Except Fault Word :=
  match memRead s addr with
  | .error f => .error f
  | .ok l =>
    match memRead s (addr + 1) with
    | .error f => .error f
    | .ok h => .ok (pair h l)

end Sys2Proof.Machine
end

