-- ==== Sys2Proof/Machine/Flags.lean ====
section
/-! DEFINITION. The arithmetic of the CPU and the flags it computes (42_cpu_alu8.md, 43_cpu_alu16.md,
44_cpu_rotate_shift_bit.md): pure functions of the operands, in the spec's own formulas. -/

namespace Sys2Proof.Machine

/-- Sum on the natural numbers with the flags of an addition: result, `Z N H C` (R202, R203; `cin` false for ADD). -/
def addByte (a b : Byte) (cin : Bool) : Byte × Byte :=
  let sum := a.toNat + b.toNat + cin.toNat
  let res := BitVec.ofNat 8 sum
  (res, flagsByte (res == 0) false (decide (a.toNat % 16 + b.toNat % 16 + cin.toNat > 0xF)) (decide (sum > 0xFF)))

/-- Difference with the flags of a subtraction (R204, R205, R209; `cin` false for SUB and CP). -/
def subByte (a b : Byte) (cin : Bool) : Byte × Byte :=
  let res := a - b - bitByte cin
  (res, flagsByte (res == 0) true (decide (a.toNat % 16 < b.toNat % 16 + cin.toNat))
    (decide (a.toNat < b.toNat + cin.toNat)))

/-- A logic operation: Z by the result, N = 0, `h`, C = 0 (R206 to R208). -/
def logicByte (res : Byte) (h : Bool) : Byte × Byte := (res, flagsByte (res == 0) false h false)

/-- The eight accumulator operations: the new `A` and the new `F` from `A`, the source and the carry-in (R202 to
R209). `CP` leaves `A`. -/
def aluByte (op : AluOp) (a b : Byte) (cin : Bool) : Byte × Byte :=
  match op with
  | .add => addByte a b false
  | .adc => addByte a b cin
  | .sub => subByte a b false
  | .sbc => subByte a b cin
  | .and => logicByte (a &&& b) true
  | .xor => logicByte (a ^^^ b) false
  | .or => logicByte (a ||| b) false
  | .cp => (a, (subByte a b false).2)

/-- `INC`: result and flags, `C` kept (R210, R211). -/
def incByte (v : Byte) (c : Bool) : Byte × Byte :=
  let res := v + 1
  (res, flagsByte (res == 0) false (v &&& 0xF == 0xF) c)

/-- `DEC`: result and flags, `C` kept (R212, R213). -/
def decByte (v : Byte) (c : Bool) : Byte × Byte :=
  let res := v - 1
  (res, flagsByte (res == 0) true (v &&& 0xF == 0x0) c)

/-- `DAA` (R214): the new `A` and the new `F` from `A` and the flags `N`, `H`, `C`. -/
def daaByte (a : Byte) (n h c : Bool) : Byte × Byte :=
  if n then
    let a1 := if c then a - 0x60 else a
    let a2 := if h then a1 - 0x06 else a1
    (a2, flagsByte (a2 == 0) n false c)
  else
    let up := c || decide (a.toNat > 0x99)
    let a1 := if up then a + 0x60 else a
    let a2 := if h || decide (a1.toNat % 16 > 0x09) then a1 + 0x06 else a1
    (a2, flagsByte (a2 == 0) n false up)

/-- The CB rotates and shifts: result and carry out, from the operand and the old `C` (R255 to R262). -/
def rotByte (op : RotOp) (v : Byte) (cin : Bool) : Byte × Bool :=
  match op with
  | .rlc => ((v <<< 1) ||| bitByte (bit v 7), bit v 7)
  | .rrc => ((v >>> 1) ||| (bitByte (bit v 0) <<< 7), bit v 0)
  | .rl => ((v <<< 1) ||| bitByte cin, bit v 7)
  | .rr => ((v >>> 1) ||| (bitByte cin <<< 7), bit v 0)
  | .sla => (v <<< 1, bit v 7)
  | .sra => ((v >>> 1) ||| (v &&& 0x80), bit v 0)
  | .swap => ((v <<< 4) ||| (v >>> 4), false)
  | .srl => (v >>> 1, bit v 0)

/-- The flags of a CB rotate or shift: Z by the result, N = H = 0 (R255 to R262). -/
def rotFlags (r : Byte × Bool) : Byte := flagsByte (r.1 == 0) false false r.2

/-- The accumulator rotates: the new `A` and `F`; `Z` is cleared whatever the result (R250 to R253). -/
def rotAByte (op : RotAOp) (a : Byte) (cin : Bool) : Byte × Byte :=
  let r := match op with
    | .rlca => rotByte .rlc a cin
    | .rrca => rotByte .rrc a cin
    | .rla => rotByte .rl a cin
    | .rra => rotByte .rr a cin
  (r.1, flagsByte false false false r.2)

/-- `RES b` (R264). -/
def resByte (v : Byte) (b : Nat) : Byte := v &&& ~~~((1 : Byte) <<< b)

/-- `SET b` (R265). -/
def setByte (v : Byte) (b : Nat) : Byte := v ||| ((1 : Byte) <<< b)

/-- `ADD HL,rr`: result and flags, `Z` kept; H is the carry out of bit 11, C out of bit 15 (R240). -/
def addWord (a b : Word) (z : Bool) : Word × Byte :=
  let sum := a.toNat + b.toNat
  (BitVec.ofNat 16 sum,
    flagsByte z false (decide (a.toNat % 0x1000 + b.toNat % 0x1000 > 0x0FFF)) (decide (sum > 0xFFFF)))

/-- `SP` plus a signed displacement, with H and C from the low byte and Z = N = 0 (R183, R243). -/
def addSPDisp (sp : Word) (e : Byte) : Word × Byte :=
  (sp + sext16 e,
    flagsByte false false (decide (sp.toNat % 16 + e.toNat % 16 > 0x0F)) (decide (sp.toNat % 256 + e.toNat > 0xFF)))

end Sys2Proof.Machine
end

