-- ==== Sys2Proof/Machine/Ops.lean ====
section
/-! DEFINITION. The named operations that the meanings share: ending an instruction or raising a `Fatal`, the
stack (R11), interrupt entry (R490, R493) and the return from it (R291, R497). -/

namespace Sys2Proof.Machine

/-- `raise Fatal(kind, info)`: the machine enters the faulted state (R11, R505). Nothing but `fault` changes: the
spec's rule for an opcode (R302, R305), its advice for a Fatal in the middle of a step (R504; log 7). -/
def raiseFatal (f : Fault) (s : State) : Result := .next { s with fault := some f }

/-- The end of a step's work that may have raised a `Fatal`: the state it reached, or the faulted state of the
state `s` it began in (R504). -/
def finish (s : State) : Except Fault State → Result
  | .ok t => .next t
  | .error f => raiseFatal f s

/-- Go on with the byte at `addr` (R72), or raise its `Fatal` from the state `s` the instruction began in. -/
def withByte (s : State) (addr : Word) (k : Byte → Result) : Result :=
  match memRead s addr with
  | .error f => raiseFatal f s
  | .ok v => k v

/-- Store a byte (R73) and end the instruction with `k`, or raise the write's `Fatal`. -/
def storeByte (s : State) (addr : Word) (v : Byte) (k : State → State) : Result :=
  match memWrite s addr v with
  | .error f => raiseFatal f s
  | .ok t => .next (k t)

/-- `push16(w)`: the high byte first, `SP` reduced before each byte (R11, R186). -/
def push16 (s : State) (w : Word) : Except Fault State :=
  let s1 := setSP s (s.cpu.sp - 1)
  match memWrite s1 s1.cpu.sp (hi w) with
  | .error f => .error f
  | .ok s2 =>
    let s3 := setSP s2 (s2.cpu.sp - 1)
    memWrite s3 s3.cpu.sp (lo w)

/-- `pop16()`: the low byte first, `SP` raised after each byte (R11, R186). -/
def pop16 (s : State) : Except Fault (Word × State) :=
  match memRead s s.cpu.sp with
  | .error f => .error f
  | .ok l =>
    let s1 := setSP s (s.cpu.sp + 1)
    match memRead s1 s1.cpu.sp with
    | .error f => .error f
    | .ok h => .ok (pair h l, setSP s1 (s1.cpu.sp + 1))

/-- Push `w` and end the instruction with `k`, or raise the push's `Fatal`. -/
def pushThen (s : State) (w : Word) (k : State → State) : Result :=
  match push16 s w with
  | .error f => raiseFatal f s
  | .ok t => .next (k t)

/-- Pop a word and end the instruction with `k`, or raise the pop's `Fatal`. -/
def popThen (s : State) (k : Word → State → State) : Result :=
  match pop16 s with
  | .error f => raiseFatal f s
  | .ok (w, t) => .next (k w t)

/-- `IF & IE & 0x1F` (R487). -/
def pending (s : State) : BitVec 5 := s.ifReg &&& s.ie.setWidth 5

/-- The least `i` in 0 to 4 with `p[i] = 1` (R490, R494); 4 when no lower bit is set. -/
def lowestSet (p : BitVec 5) : Nat :=
  if p.getLsbD 0 then 0
  else if p.getLsbD 1 then 1
  else if p.getLsbD 2 then 2
  else if p.getLsbD 3 then 3
  else 4

/-- `0x0040 + 8 * i` (R486). -/
def vector (i : Nat) : Word := BitVec.ofNat 16 (0x40 + 8 * i)

/-- Interrupt entry, the one exception entry of this machine (R490 branch (1), R493): `halted` cleared, the `IF` bit
cleared, `IME` cleared, `PC` pushed, `PC` at the vector, `INT_SERVICE_CYCLES` reported (R8, decision D7); no instruction runs. -/
def takeInterrupt (s : State) : Result :=
  let i := lowestSet (pending s)
  let s1 := { s with ifReg := s.ifReg &&& ~~~((1 : BitVec 5) <<< i),
                     cpu := { s.cpu with halted := false, ime := false } }
  match push16 s1 s.cpu.pc with
  | .error f => raiseFatal f s
  | .ok t => .next (jumpTo (vector i) s.launch.intServiceCycles t)

/-- The return from a handler (R291, R497): `PC` popped, `IME` set at once; nothing else is restored. -/
def returnFromInterrupt (s : State) : Result :=
  popThen s fun w t => { (jumpTo w 16 t) with cpu := { (jumpTo w 16 t).cpu with ime := true } }

end Sys2Proof.Machine
end

