-- ==== Sys2Proof/Machine/Alu16.lean ====
section
/-! DEFINITION. 16-bit arithmetic (43_cpu_alu16.md): the shared operations, then one meaning per opcode. -/

namespace Sys2Proof.Machine

/-- `ADD HL,rr` (R240). -/
def addHLPair (rr : Reg16) (s : State) : Result :=
  let r := addWord (getHL s) (getR16 s rr) (flagZ s)
  .next (advance 1 8 (setF (setHL s r.1) r.2))

/-- `INC rr` (R241). -/
def incPair (rr : Reg16) (s : State) : Result := .next (advance 1 8 (setR16 s rr (getR16 s rr + 1)))

/-- `DEC rr` (R242). -/
def decPair (rr : Reg16) (s : State) : Result := .next (advance 1 8 (setR16 s rr (getR16 s rr - 1)))

/-- `ADD SP,e` (R243). -/
def addSPImm (e : Byte) (s : State) : Result :=
  .next (advance 2 16 (setF (setSP s (addSPDisp s.cpu.sp e).1) (addSPDisp s.cpu.sp e).2))

/-- `INC BC` (R241). -/
def execInc_BC (s : State) : Result := incPair .bc s

/-- `ADD HL,BC` (R240). -/
def execAdd_HL_BC (s : State) : Result := addHLPair .bc s

/-- `DEC BC` (R242). -/
def execDec_BC (s : State) : Result := decPair .bc s

/-- `INC DE` (R241). -/
def execInc_DE (s : State) : Result := incPair .de s

/-- `ADD HL,DE` (R240). -/
def execAdd_HL_DE (s : State) : Result := addHLPair .de s

/-- `DEC DE` (R242). -/
def execDec_DE (s : State) : Result := decPair .de s

/-- `INC HL` (R241). -/
def execInc_HL (s : State) : Result := incPair .hl s

/-- `ADD HL,HL` (R240). -/
def execAdd_HL_HL (s : State) : Result := addHLPair .hl s

/-- `DEC HL` (R242). -/
def execDec_HL (s : State) : Result := decPair .hl s

/-- `INC SP` (R241). -/
def execInc_SP (s : State) : Result := incPair .sp s

/-- `ADD HL,SP` (R240). -/
def execAdd_HL_SP (s : State) : Result := addHLPair .sp s

/-- `DEC SP` (R242). -/
def execDec_SP (s : State) : Result := decPair .sp s

/-- `ADD SP,e` (R243). -/
def execAdd_SP_e (e : Byte) (s : State) : Result := addSPImm e s

end Sys2Proof.Machine
end

