-- ==== Sys2Proof/Machine/Alu8.lean ====
section
/-! DEFINITION. 8-bit arithmetic and logic (42_cpu_alu8.md): the shared operations, then one meaning per opcode. -/

namespace Sys2Proof.Machine

/-- Write `A` and `F` with the outcome of an accumulator operation on the source byte `v` (R202 to R209). -/
def applyAlu (op : AluOp) (v : Byte) (s : State) : State :=
  setF (setR8 s .a (aluByte op s.cpu.a v (flagC s)).1) (aluByte op s.cpu.a v (flagC s)).2

/-- The register form (R201). -/
def aluReg (op : AluOp) (r : Reg8) (s : State) : Result := .next (advance 1 4 (applyAlu op (getR8 s r) s))

/-- The memory form (R201). -/
def aluMem (op : AluOp) (s : State) : Result :=
  withByte s (getHL s) fun v => .next (advance 1 8 (applyAlu op v s))

/-- The immediate form (R201). -/
def aluImm (op : AluOp) (n : Byte) (s : State) : Result := .next (advance 2 8 (applyAlu op n s))

/-- `INC r` (R210). -/
def incReg (r : Reg8) (s : State) : Result :=
  .next (advance 1 4 (setF (setR8 s r (incByte (getR8 s r) (flagC s)).1) (incByte (getR8 s r) (flagC s)).2))

/-- `INC (HL)` (R211). -/
def incMem (s : State) : Result :=
  withByte s (getHL s) fun v =>
    storeByte s (getHL s) (incByte v (flagC s)).1 fun t => advance 1 12 (setF t (incByte v (flagC s)).2)

/-- `DEC r` (R212). -/
def decReg (r : Reg8) (s : State) : Result :=
  .next (advance 1 4 (setF (setR8 s r (decByte (getR8 s r) (flagC s)).1) (decByte (getR8 s r) (flagC s)).2))

/-- `DEC (HL)` (R213). -/
def decMem (s : State) : Result :=
  withByte s (getHL s) fun v =>
    storeByte s (getHL s) (decByte v (flagC s)).1 fun t => advance 1 12 (setF t (decByte v (flagC s)).2)

/-- `DAA` (R214). -/
def daaOp (s : State) : Result :=
  let r := daaByte s.cpu.a (flagN s) (flagH s) (flagC s)
  .next (advance 1 4 (setF (setR8 s .a r.1) r.2))

/-- `CPL` (R215). -/
def cplOp (s : State) : Result :=
  .next (advance 1 4 (setF (setR8 s .a (~~~s.cpu.a)) (flagsByte (flagZ s) true true (flagC s))))

/-- `SCF` (R216). -/
def scfOp (s : State) : Result := .next (advance 1 4 (setF s (flagsByte (flagZ s) false false true)))

/-- `CCF` (R217). -/
def ccfOp (s : State) : Result := .next (advance 1 4 (setF s (flagsByte (flagZ s) false false (!flagC s))))

/-- `INC B` (R210). -/
def execInc_B (s : State) : Result := incReg .b s

/-- `DEC B` (R212). -/
def execDec_B (s : State) : Result := decReg .b s

/-- `INC C` (R210). -/
def execInc_C (s : State) : Result := incReg .c s

/-- `DEC C` (R212). -/
def execDec_C (s : State) : Result := decReg .c s

/-- `INC D` (R210). -/
def execInc_D (s : State) : Result := incReg .d s

/-- `DEC D` (R212). -/
def execDec_D (s : State) : Result := decReg .d s

/-- `INC E` (R210). -/
def execInc_E (s : State) : Result := incReg .e s

/-- `DEC E` (R212). -/
def execDec_E (s : State) : Result := decReg .e s

/-- `INC H` (R210). -/
def execInc_H (s : State) : Result := incReg .h s

/-- `DEC H` (R212). -/
def execDec_H (s : State) : Result := decReg .h s

/-- `DAA` (R214). -/
def execDaa (s : State) : Result := daaOp s

/-- `INC L` (R210). -/
def execInc_L (s : State) : Result := incReg .l s

/-- `DEC L` (R212). -/
def execDec_L (s : State) : Result := decReg .l s

/-- `CPL` (R215). -/
def execCpl (s : State) : Result := cplOp s

/-- `INC (HL)` (R211). -/
def execInc_mHL (s : State) : Result := incMem s

/-- `DEC (HL)` (R213). -/
def execDec_mHL (s : State) : Result := decMem s

/-- `SCF` (R216). -/
def execScf (s : State) : Result := scfOp s

/-- `INC A` (R210). -/
def execInc_A (s : State) : Result := incReg .a s

/-- `DEC A` (R212). -/
def execDec_A (s : State) : Result := decReg .a s

/-- `CCF` (R217). -/
def execCcf (s : State) : Result := ccfOp s

/-- `ADD A,B` (R202). -/
def execAdd_A_B (s : State) : Result := aluReg .add .b s

/-- `ADD A,C` (R202). -/
def execAdd_A_C (s : State) : Result := aluReg .add .c s

/-- `ADD A,D` (R202). -/
def execAdd_A_D (s : State) : Result := aluReg .add .d s

/-- `ADD A,E` (R202). -/
def execAdd_A_E (s : State) : Result := aluReg .add .e s

/-- `ADD A,H` (R202). -/
def execAdd_A_H (s : State) : Result := aluReg .add .h s

/-- `ADD A,L` (R202). -/
def execAdd_A_L (s : State) : Result := aluReg .add .l s

/-- `ADD A,(HL)` (R202). -/
def execAdd_A_mHL (s : State) : Result := aluMem .add s

/-- `ADD A,A` (R202). -/
def execAdd_A_A (s : State) : Result := aluReg .add .a s

/-- `ADC A,B` (R203). -/
def execAdc_A_B (s : State) : Result := aluReg .adc .b s

/-- `ADC A,C` (R203). -/
def execAdc_A_C (s : State) : Result := aluReg .adc .c s

/-- `ADC A,D` (R203). -/
def execAdc_A_D (s : State) : Result := aluReg .adc .d s

/-- `ADC A,E` (R203). -/
def execAdc_A_E (s : State) : Result := aluReg .adc .e s

/-- `ADC A,H` (R203). -/
def execAdc_A_H (s : State) : Result := aluReg .adc .h s

/-- `ADC A,L` (R203). -/
def execAdc_A_L (s : State) : Result := aluReg .adc .l s

/-- `ADC A,(HL)` (R203). -/
def execAdc_A_mHL (s : State) : Result := aluMem .adc s

/-- `ADC A,A` (R203). -/
def execAdc_A_A (s : State) : Result := aluReg .adc .a s

/-- `SUB B` (R204). -/
def execSub_B (s : State) : Result := aluReg .sub .b s

/-- `SUB C` (R204). -/
def execSub_C (s : State) : Result := aluReg .sub .c s

/-- `SUB D` (R204). -/
def execSub_D (s : State) : Result := aluReg .sub .d s

/-- `SUB E` (R204). -/
def execSub_E (s : State) : Result := aluReg .sub .e s

/-- `SUB H` (R204). -/
def execSub_H (s : State) : Result := aluReg .sub .h s

/-- `SUB L` (R204). -/
def execSub_L (s : State) : Result := aluReg .sub .l s

/-- `SUB (HL)` (R204). -/
def execSub_mHL (s : State) : Result := aluMem .sub s

/-- `SUB A` (R204). -/
def execSub_A (s : State) : Result := aluReg .sub .a s

/-- `SBC A,B` (R205). -/
def execSbc_A_B (s : State) : Result := aluReg .sbc .b s

/-- `SBC A,C` (R205). -/
def execSbc_A_C (s : State) : Result := aluReg .sbc .c s

/-- `SBC A,D` (R205). -/
def execSbc_A_D (s : State) : Result := aluReg .sbc .d s

/-- `SBC A,E` (R205). -/
def execSbc_A_E (s : State) : Result := aluReg .sbc .e s

/-- `SBC A,H` (R205). -/
def execSbc_A_H (s : State) : Result := aluReg .sbc .h s

/-- `SBC A,L` (R205). -/
def execSbc_A_L (s : State) : Result := aluReg .sbc .l s

/-- `SBC A,(HL)` (R205). -/
def execSbc_A_mHL (s : State) : Result := aluMem .sbc s

/-- `SBC A,A` (R205). -/
def execSbc_A_A (s : State) : Result := aluReg .sbc .a s

/-- `AND B` (R206). -/
def execAnd_B (s : State) : Result := aluReg .and .b s

/-- `AND C` (R206). -/
def execAnd_C (s : State) : Result := aluReg .and .c s

/-- `AND D` (R206). -/
def execAnd_D (s : State) : Result := aluReg .and .d s

/-- `AND E` (R206). -/
def execAnd_E (s : State) : Result := aluReg .and .e s

/-- `AND H` (R206). -/
def execAnd_H (s : State) : Result := aluReg .and .h s

/-- `AND L` (R206). -/
def execAnd_L (s : State) : Result := aluReg .and .l s

/-- `AND (HL)` (R206). -/
def execAnd_mHL (s : State) : Result := aluMem .and s

/-- `AND A` (R206). -/
def execAnd_A (s : State) : Result := aluReg .and .a s

/-- `XOR B` (R207). -/
def execXor_B (s : State) : Result := aluReg .xor .b s

/-- `XOR C` (R207). -/
def execXor_C (s : State) : Result := aluReg .xor .c s

/-- `XOR D` (R207). -/
def execXor_D (s : State) : Result := aluReg .xor .d s

/-- `XOR E` (R207). -/
def execXor_E (s : State) : Result := aluReg .xor .e s

/-- `XOR H` (R207). -/
def execXor_H (s : State) : Result := aluReg .xor .h s

/-- `XOR L` (R207). -/
def execXor_L (s : State) : Result := aluReg .xor .l s

/-- `XOR (HL)` (R207). -/
def execXor_mHL (s : State) : Result := aluMem .xor s

/-- `XOR A` (R207). -/
def execXor_A (s : State) : Result := aluReg .xor .a s

/-- `OR B` (R208). -/
def execOr_B (s : State) : Result := aluReg .or .b s

/-- `OR C` (R208). -/
def execOr_C (s : State) : Result := aluReg .or .c s

/-- `OR D` (R208). -/
def execOr_D (s : State) : Result := aluReg .or .d s

/-- `OR E` (R208). -/
def execOr_E (s : State) : Result := aluReg .or .e s

/-- `OR H` (R208). -/
def execOr_H (s : State) : Result := aluReg .or .h s

/-- `OR L` (R208). -/
def execOr_L (s : State) : Result := aluReg .or .l s

/-- `OR (HL)` (R208). -/
def execOr_mHL (s : State) : Result := aluMem .or s

/-- `OR A` (R208). -/
def execOr_A (s : State) : Result := aluReg .or .a s

/-- `CP B` (R209). -/
def execCp_B (s : State) : Result := aluReg .cp .b s

/-- `CP C` (R209). -/
def execCp_C (s : State) : Result := aluReg .cp .c s

/-- `CP D` (R209). -/
def execCp_D (s : State) : Result := aluReg .cp .d s

/-- `CP E` (R209). -/
def execCp_E (s : State) : Result := aluReg .cp .e s

/-- `CP H` (R209). -/
def execCp_H (s : State) : Result := aluReg .cp .h s

/-- `CP L` (R209). -/
def execCp_L (s : State) : Result := aluReg .cp .l s

/-- `CP (HL)` (R209). -/
def execCp_mHL (s : State) : Result := aluMem .cp s

/-- `CP A` (R209). -/
def execCp_A (s : State) : Result := aluReg .cp .a s

/-- `ADD A,n` (R202). -/
def execAdd_A_n (n : Byte) (s : State) : Result := aluImm .add n s

/-- `ADC A,n` (R203). -/
def execAdc_A_n (n : Byte) (s : State) : Result := aluImm .adc n s

/-- `SUB n` (R204). -/
def execSub_n (n : Byte) (s : State) : Result := aluImm .sub n s

/-- `SBC A,n` (R205). -/
def execSbc_A_n (n : Byte) (s : State) : Result := aluImm .sbc n s

/-- `AND n` (R206). -/
def execAnd_n (n : Byte) (s : State) : Result := aluImm .and n s

/-- `XOR n` (R207). -/
def execXor_n (n : Byte) (s : State) : Result := aluImm .xor n s

/-- `OR n` (R208). -/
def execOr_n (n : Byte) (s : State) : Result := aluImm .or n s

/-- `CP n` (R209). -/
def execCp_n (n : Byte) (s : State) : Result := aluImm .cp n s

end Sys2Proof.Machine
end

