-- ==== Sys2Proof/Machine/Control.lean ====
section
/-! DEFINITION. Control transfer (45_cpu_control.md): the shared operations, then one meaning per opcode. None of them
changes a flag. -/

namespace Sys2Proof.Machine

/-- `JP nn` (R281). -/
def jpOp (nn : Word) (s : State) : Result := .next (jumpTo nn 16 s)

/-- `JP cc,nn` (R282). -/
def jpIf (cc : Cond) (nn : Word) (s : State) : Result :=
  if condHolds s cc then .next (jumpTo nn 16 s) else .next (advance 3 12 s)

/-- `JP HL` (R283). -/
def jpToHL (s : State) : Result := .next (jumpTo (getHL s) 4 s)

/-- The target of a relative jump: `PC0 + 2 + sext_16(e)` (R284). -/
def relTarget (s : State) (e : Byte) : Word := s.cpu.pc + 2 + sext16 e

/-- `JR e` (R284). -/
def jrOp (e : Byte) (s : State) : Result := .next (jumpTo (relTarget s e) 12 s)

/-- `JR cc,e` (R285). -/
def jrIf (cc : Cond) (e : Byte) (s : State) : Result :=
  if condHolds s cc then .next (jumpTo (relTarget s e) 12 s) else .next (advance 2 8 s)

/-- `CALL nn` (R286). -/
def callOp (nn : Word) (s : State) : Result := pushThen s (s.cpu.pc + 3) (jumpTo nn 24)

/-- `CALL cc,nn` (R287). -/
def callIf (cc : Cond) (nn : Word) (s : State) : Result :=
  if condHolds s cc then pushThen s (s.cpu.pc + 3) (jumpTo nn 24) else .next (advance 3 12 s)

/-- `RET` (R288). -/
def retOp (s : State) : Result := popThen s fun w t => jumpTo w 16 t

/-- `RET cc` (R289). -/
def retIf (cc : Cond) (s : State) : Result :=
  if condHolds s cc then popThen s fun w t => jumpTo w 20 t else .next (advance 1 8 s)

/-- `RST t` (R290). -/
def rstTo (t : Byte) (s : State) : Result := pushThen s (s.cpu.pc + 1) (jumpTo (zext16 t) 16)

/-- `RETI` (R291): the return from a handler. -/
def retiOp (s : State) : Result := returnFromInterrupt s

/-- `JR e` (R284). -/
def execJr_e (e : Byte) (s : State) : Result := jrOp e s

/-- `JR NZ,e` (R285). -/
def execJr_NZ_e (e : Byte) (s : State) : Result := jrIf .nz e s

/-- `JR Z,e` (R285). -/
def execJr_Z_e (e : Byte) (s : State) : Result := jrIf .z e s

/-- `JR NC,e` (R285). -/
def execJr_NC_e (e : Byte) (s : State) : Result := jrIf .nc e s

/-- `JR C,e` (R285). -/
def execJr_C_e (e : Byte) (s : State) : Result := jrIf .c e s

/-- `RET NZ` (R289). -/
def execRet_NZ (s : State) : Result := retIf .nz s

/-- `JP NZ,nn` (R282). -/
def execJp_NZ_nn (nn : Word) (s : State) : Result := jpIf .nz nn s

/-- `JP nn` (R281). -/
def execJp_nn (nn : Word) (s : State) : Result := jpOp nn s

/-- `CALL NZ,nn` (R287). -/
def execCall_NZ_nn (nn : Word) (s : State) : Result := callIf .nz nn s

/-- `RST 0x00` (R290). -/
def execRst_00 (s : State) : Result := rstTo 0x00 s

/-- `RET Z` (R289). -/
def execRet_Z (s : State) : Result := retIf .z s

/-- `RET` (R288). -/
def execRet (s : State) : Result := retOp s

/-- `JP Z,nn` (R282). -/
def execJp_Z_nn (nn : Word) (s : State) : Result := jpIf .z nn s

/-- `CALL Z,nn` (R287). -/
def execCall_Z_nn (nn : Word) (s : State) : Result := callIf .z nn s

/-- `CALL nn` (R286). -/
def execCall_nn (nn : Word) (s : State) : Result := callOp nn s

/-- `RST 0x08` (R290). -/
def execRst_08 (s : State) : Result := rstTo 0x08 s

/-- `RET NC` (R289). -/
def execRet_NC (s : State) : Result := retIf .nc s

/-- `JP NC,nn` (R282). -/
def execJp_NC_nn (nn : Word) (s : State) : Result := jpIf .nc nn s

/-- `CALL NC,nn` (R287). -/
def execCall_NC_nn (nn : Word) (s : State) : Result := callIf .nc nn s

/-- `RST 0x10` (R290). -/
def execRst_10 (s : State) : Result := rstTo 0x10 s

/-- `RET C` (R289). -/
def execRet_C (s : State) : Result := retIf .c s

/-- `RETI` (R291). -/
def execReti (s : State) : Result := retiOp s

/-- `JP C,nn` (R282). -/
def execJp_C_nn (nn : Word) (s : State) : Result := jpIf .c nn s

/-- `CALL C,nn` (R287). -/
def execCall_C_nn (nn : Word) (s : State) : Result := callIf .c nn s

/-- `RST 0x18` (R290). -/
def execRst_18 (s : State) : Result := rstTo 0x18 s

/-- `RST 0x20` (R290). -/
def execRst_20 (s : State) : Result := rstTo 0x20 s

/-- `JP HL` (R283). -/
def execJp_HL (s : State) : Result := jpToHL s

/-- `RST 0x28` (R290). -/
def execRst_28 (s : State) : Result := rstTo 0x28 s

/-- `RST 0x30` (R290). -/
def execRst_30 (s : State) : Result := rstTo 0x30 s

/-- `RST 0x38` (R290). -/
def execRst_38 (s : State) : Result := rstTo 0x38 s

end Sys2Proof.Machine
end

