-- ==== Sys2Proof/Machine/Load16Stack.lean ====
section
/-! DEFINITION. 16-bit loads and the stack (41_cpu_load16_stack.md): the shared operations, then one meaning per
opcode. -/

namespace Sys2Proof.Machine

/-- `LD rr,nn` (R180). -/
def ldPairImm (rr : Reg16) (nn : Word) (s : State) : Result := .next (advance 3 12 (setR16 s rr nn))

/-- `LD (nn),SP` (R181): the low byte at `nn`, the high byte after it (R94). -/
def storeSP (nn : Word) (s : State) : Result :=
  match memWrite16 s nn s.cpu.sp with
  | .error f => raiseFatal f s
  | .ok t => .next (advance 3 20 t)

/-- `LD SP,HL` (R182). -/
def ldSPFromHL (s : State) : Result := .next (advance 1 8 (setSP s (getHL s)))

/-- `LD HL,SP+e` (R183). -/
def ldHLFromSP (e : Byte) (s : State) : Result :=
  .next (advance 2 12 (setF (setHL s (addSPDisp s.cpu.sp e).1) (addSPDisp s.cpu.sp e).2))

/-- `PUSH rr` (R184). -/
def pushPair (rr : Reg16S) (s : State) : Result := pushThen s (getR16S s rr) (advance 1 16)

/-- `POP rr` (R185). -/
def popPair (rr : Reg16S) (s : State) : Result := popThen s fun w t => advance 1 12 (setR16S t rr w)

/-- `LD BC,nn` (R180). -/
def execLd_BC_nn (nn : Word) (s : State) : Result := ldPairImm .bc nn s

/-- `LD (nn),SP` (R181). -/
def execLd_mnn_SP (nn : Word) (s : State) : Result := storeSP nn s

/-- `LD DE,nn` (R180). -/
def execLd_DE_nn (nn : Word) (s : State) : Result := ldPairImm .de nn s

/-- `LD HL,nn` (R180). -/
def execLd_HL_nn (nn : Word) (s : State) : Result := ldPairImm .hl nn s

/-- `LD SP,nn` (R180). -/
def execLd_SP_nn (nn : Word) (s : State) : Result := ldPairImm .sp nn s

/-- `POP BC` (R185). -/
def execPop_BC (s : State) : Result := popPair .bc s

/-- `PUSH BC` (R184). -/
def execPush_BC (s : State) : Result := pushPair .bc s

/-- `POP DE` (R185). -/
def execPop_DE (s : State) : Result := popPair .de s

/-- `PUSH DE` (R184). -/
def execPush_DE (s : State) : Result := pushPair .de s

/-- `POP HL` (R185). -/
def execPop_HL (s : State) : Result := popPair .hl s

/-- `PUSH HL` (R184). -/
def execPush_HL (s : State) : Result := pushPair .hl s

/-- `POP AF` (R185). -/
def execPop_AF (s : State) : Result := popPair .af s

/-- `PUSH AF` (R184). -/
def execPush_AF (s : State) : Result := pushPair .af s

/-- `LD HL,SP+e` (R183). -/
def execLd_HL_SPe (e : Byte) (s : State) : Result := ldHLFromSP e s

/-- `LD SP,HL` (R182). -/
def execLd_SP_HL (s : State) : Result := ldSPFromHL s

end Sys2Proof.Machine
end

