-- ==== Sys2Proof/Machine/Load8.lean ====
section
/-! DEFINITION. 8-bit loads and stores (40_cpu_load8.md): the shared operations, then one meaning per opcode. None of
them changes a flag. -/

namespace Sys2Proof.Machine

/-- `LD r,r'` (R151). -/
def ldRegReg (d r : Reg8) (s : State) : Result := .next (advance 1 4 (setR8 s d (getR8 s r)))

/-- `LD r,n` (R152). -/
def ldRegImm (d : Reg8) (n : Byte) (s : State) : Result := .next (advance 2 8 (setR8 s d n))

/-- `LD r,(HL)` (R153). -/
def ldRegMem (d : Reg8) (s : State) : Result :=
  withByte s (getHL s) fun v => .next (advance 1 8 (setR8 s d v))

/-- `LD (HL),r` (R154). -/
def ldMemReg (r : Reg8) (s : State) : Result := storeByte s (getHL s) (getR8 s r) (advance 1 8)

/-- `LD (HL),n` (R155). -/
def ldMemImm (n : Byte) (s : State) : Result := storeByte s (getHL s) n (advance 2 12)

/-- The effective address of an accumulator load or store (R150). -/
def modeAddr (s : State) : AddrMode → Word
  | .bc => getBC s
  | .de => getDE s
  | .hlInc => getHL s
  | .hlDec => getHL s
  | .abs nn => nn
  | .high n => 0xFF00 + zext16 n
  | .highC => 0xFF00 + zext16 s.cpu.c

/-- What the addressing mode does to its base register afterwards (R150). -/
def modeAfter (m : AddrMode) (s : State) : State :=
  match m with
  | .bc => s
  | .de => s
  | .hlInc => setHL s (getHL s + 1)
  | .hlDec => setHL s (getHL s - 1)
  | .abs _ => s
  | .high _ => s
  | .highC => s

/-- The instruction's length in each mode (R156 to R169). -/
def modeLen : AddrMode → Word
  | .bc => 1
  | .de => 1
  | .hlInc => 1
  | .hlDec => 1
  | .abs _ => 3
  | .high _ => 2
  | .highC => 1

/-- The instruction's cost in each mode (R156 to R169). -/
def modeCost : AddrMode → Nat
  | .bc => 8
  | .de => 8
  | .hlInc => 8
  | .hlDec => 8
  | .abs _ => 16
  | .high _ => 12
  | .highC => 8

/-- Load `A` from memory (R156, R157, R160, R162, R164, R166, R167). -/
def ldAcc (m : AddrMode) (s : State) : Result :=
  withByte s (modeAddr s m) fun v => .next (advance (modeLen m) (modeCost m) (modeAfter m (setR8 s .a v)))

/-- Store `A` to memory (R158, R159, R161, R163, R165, R168, R169). -/
def stAcc (m : AddrMode) (s : State) : Result :=
  storeByte s (modeAddr s m) s.cpu.a fun t => advance (modeLen m) (modeCost m) (modeAfter m t)

/-- `LD (BC),A` (R158). -/
def execLd_mBC_A (s : State) : Result := stAcc .bc s

/-- `LD B,n` (R152). -/
def execLd_B_n (n : Byte) (s : State) : Result := ldRegImm .b n s

/-- `LD A,(BC)` (R156). -/
def execLd_A_mBC (s : State) : Result := ldAcc .bc s

/-- `LD C,n` (R152). -/
def execLd_C_n (n : Byte) (s : State) : Result := ldRegImm .c n s

/-- `LD (DE),A` (R159). -/
def execLd_mDE_A (s : State) : Result := stAcc .de s

/-- `LD D,n` (R152). -/
def execLd_D_n (n : Byte) (s : State) : Result := ldRegImm .d n s

/-- `LD A,(DE)` (R157). -/
def execLd_A_mDE (s : State) : Result := ldAcc .de s

/-- `LD E,n` (R152). -/
def execLd_E_n (n : Byte) (s : State) : Result := ldRegImm .e n s

/-- `LD (HL+),A` (R168). -/
def execLd_mHLinc_A (s : State) : Result := stAcc .hlInc s

/-- `LD H,n` (R152). -/
def execLd_H_n (n : Byte) (s : State) : Result := ldRegImm .h n s

/-- `LD A,(HL+)` (R166). -/
def execLd_A_mHLinc (s : State) : Result := ldAcc .hlInc s

/-- `LD L,n` (R152). -/
def execLd_L_n (n : Byte) (s : State) : Result := ldRegImm .l n s

/-- `LD (HL-),A` (R169). -/
def execLd_mHLdec_A (s : State) : Result := stAcc .hlDec s

/-- `LD (HL),n` (R155). -/
def execLd_mHL_n (n : Byte) (s : State) : Result := ldMemImm n s

/-- `LD A,(HL-)` (R167). -/
def execLd_A_mHLdec (s : State) : Result := ldAcc .hlDec s

/-- `LD A,n` (R152). -/
def execLd_A_n (n : Byte) (s : State) : Result := ldRegImm .a n s

/-- `LD B,B` (R151). -/
def execLd_B_B (s : State) : Result := ldRegReg .b .b s

/-- `LD B,C` (R151). -/
def execLd_B_C (s : State) : Result := ldRegReg .b .c s

/-- `LD B,D` (R151). -/
def execLd_B_D (s : State) : Result := ldRegReg .b .d s

/-- `LD B,E` (R151). -/
def execLd_B_E (s : State) : Result := ldRegReg .b .e s

/-- `LD B,H` (R151). -/
def execLd_B_H (s : State) : Result := ldRegReg .b .h s

/-- `LD B,L` (R151). -/
def execLd_B_L (s : State) : Result := ldRegReg .b .l s

/-- `LD B,(HL)` (R153). -/
def execLd_B_mHL (s : State) : Result := ldRegMem .b s

/-- `LD B,A` (R151). -/
def execLd_B_A (s : State) : Result := ldRegReg .b .a s

/-- `LD C,B` (R151). -/
def execLd_C_B (s : State) : Result := ldRegReg .c .b s

/-- `LD C,C` (R151). -/
def execLd_C_C (s : State) : Result := ldRegReg .c .c s

/-- `LD C,D` (R151). -/
def execLd_C_D (s : State) : Result := ldRegReg .c .d s

/-- `LD C,E` (R151). -/
def execLd_C_E (s : State) : Result := ldRegReg .c .e s

/-- `LD C,H` (R151). -/
def execLd_C_H (s : State) : Result := ldRegReg .c .h s

/-- `LD C,L` (R151). -/
def execLd_C_L (s : State) : Result := ldRegReg .c .l s

/-- `LD C,(HL)` (R153). -/
def execLd_C_mHL (s : State) : Result := ldRegMem .c s

/-- `LD C,A` (R151). -/
def execLd_C_A (s : State) : Result := ldRegReg .c .a s

/-- `LD D,B` (R151). -/
def execLd_D_B (s : State) : Result := ldRegReg .d .b s

/-- `LD D,C` (R151). -/
def execLd_D_C (s : State) : Result := ldRegReg .d .c s

/-- `LD D,D` (R151). -/
def execLd_D_D (s : State) : Result := ldRegReg .d .d s

/-- `LD D,E` (R151). -/
def execLd_D_E (s : State) : Result := ldRegReg .d .e s

/-- `LD D,H` (R151). -/
def execLd_D_H (s : State) : Result := ldRegReg .d .h s

/-- `LD D,L` (R151). -/
def execLd_D_L (s : State) : Result := ldRegReg .d .l s

/-- `LD D,(HL)` (R153). -/
def execLd_D_mHL (s : State) : Result := ldRegMem .d s

/-- `LD D,A` (R151). -/
def execLd_D_A (s : State) : Result := ldRegReg .d .a s

/-- `LD E,B` (R151). -/
def execLd_E_B (s : State) : Result := ldRegReg .e .b s

/-- `LD E,C` (R151). -/
def execLd_E_C (s : State) : Result := ldRegReg .e .c s

/-- `LD E,D` (R151). -/
def execLd_E_D (s : State) : Result := ldRegReg .e .d s

/-- `LD E,E` (R151). -/
def execLd_E_E (s : State) : Result := ldRegReg .e .e s

/-- `LD E,H` (R151). -/
def execLd_E_H (s : State) : Result := ldRegReg .e .h s

/-- `LD E,L` (R151). -/
def execLd_E_L (s : State) : Result := ldRegReg .e .l s

/-- `LD E,(HL)` (R153). -/
def execLd_E_mHL (s : State) : Result := ldRegMem .e s

/-- `LD E,A` (R151). -/
def execLd_E_A (s : State) : Result := ldRegReg .e .a s

/-- `LD H,B` (R151). -/
def execLd_H_B (s : State) : Result := ldRegReg .h .b s

/-- `LD H,C` (R151). -/
def execLd_H_C (s : State) : Result := ldRegReg .h .c s

/-- `LD H,D` (R151). -/
def execLd_H_D (s : State) : Result := ldRegReg .h .d s

/-- `LD H,E` (R151). -/
def execLd_H_E (s : State) : Result := ldRegReg .h .e s

/-- `LD H,H` (R151). -/
def execLd_H_H (s : State) : Result := ldRegReg .h .h s

/-- `LD H,L` (R151). -/
def execLd_H_L (s : State) : Result := ldRegReg .h .l s

/-- `LD H,(HL)` (R153). -/
def execLd_H_mHL (s : State) : Result := ldRegMem .h s

/-- `LD H,A` (R151). -/
def execLd_H_A (s : State) : Result := ldRegReg .h .a s

/-- `LD L,B` (R151). -/
def execLd_L_B (s : State) : Result := ldRegReg .l .b s

/-- `LD L,C` (R151). -/
def execLd_L_C (s : State) : Result := ldRegReg .l .c s

/-- `LD L,D` (R151). -/
def execLd_L_D (s : State) : Result := ldRegReg .l .d s

/-- `LD L,E` (R151). -/
def execLd_L_E (s : State) : Result := ldRegReg .l .e s

/-- `LD L,H` (R151). -/
def execLd_L_H (s : State) : Result := ldRegReg .l .h s

/-- `LD L,L` (R151). -/
def execLd_L_L (s : State) : Result := ldRegReg .l .l s

/-- `LD L,(HL)` (R153). -/
def execLd_L_mHL (s : State) : Result := ldRegMem .l s

/-- `LD L,A` (R151). -/
def execLd_L_A (s : State) : Result := ldRegReg .l .a s

/-- `LD (HL),B` (R154). -/
def execLd_mHL_B (s : State) : Result := ldMemReg .b s

/-- `LD (HL),C` (R154). -/
def execLd_mHL_C (s : State) : Result := ldMemReg .c s

/-- `LD (HL),D` (R154). -/
def execLd_mHL_D (s : State) : Result := ldMemReg .d s

/-- `LD (HL),E` (R154). -/
def execLd_mHL_E (s : State) : Result := ldMemReg .e s

/-- `LD (HL),H` (R154). -/
def execLd_mHL_H (s : State) : Result := ldMemReg .h s

/-- `LD (HL),L` (R154). -/
def execLd_mHL_L (s : State) : Result := ldMemReg .l s

/-- `LD (HL),A` (R154). -/
def execLd_mHL_A (s : State) : Result := ldMemReg .a s

/-- `LD A,B` (R151). -/
def execLd_A_B (s : State) : Result := ldRegReg .a .b s

/-- `LD A,C` (R151). -/
def execLd_A_C (s : State) : Result := ldRegReg .a .c s

/-- `LD A,D` (R151). -/
def execLd_A_D (s : State) : Result := ldRegReg .a .d s

/-- `LD A,E` (R151). -/
def execLd_A_E (s : State) : Result := ldRegReg .a .e s

/-- `LD A,H` (R151). -/
def execLd_A_H (s : State) : Result := ldRegReg .a .h s

/-- `LD A,L` (R151). -/
def execLd_A_L (s : State) : Result := ldRegReg .a .l s

/-- `LD A,(HL)` (R153). -/
def execLd_A_mHL (s : State) : Result := ldRegMem .a s

/-- `LD A,A` (R151). -/
def execLd_A_A (s : State) : Result := ldRegReg .a .a s

/-- `LDH (n),A` (R163). -/
def execLdh_mn_A (n : Byte) (s : State) : Result := stAcc (.high n) s

/-- `LD (C),A` (R165). -/
def execLd_mC_A (s : State) : Result := stAcc .highC s

/-- `LD (nn),A` (R161). -/
def execLd_mnn_A (nn : Word) (s : State) : Result := stAcc (.abs nn) s

/-- `LDH A,(n)` (R162). -/
def execLdh_A_mn (n : Byte) (s : State) : Result := ldAcc (.high n) s

/-- `LD A,(C)` (R164). -/
def execLd_A_mC (s : State) : Result := ldAcc .highC s

/-- `LD A,(nn)` (R160). -/
def execLd_A_mnn (nn : Word) (s : State) : Result := ldAcc (.abs nn) s

end Sys2Proof.Machine
end

