-- ==== Sys2Proof/Machine/Misc.lean ====
section
/-! DEFINITION. System and miscellaneous instructions (46_cpu_misc.md): the shared operations, then one meaning per
opcode. -/

namespace Sys2Proof.Machine

/-- `NOP` (R300). -/
def nopOp (s : State) : Result := .next (advance 1 4 s)

/-- `HALT` (R301). -/
def haltOp (s : State) : Result := .next (advance 1 4 { s with cpu := { s.cpu with halted := true } })

/-- `STOP` (R302): raises `Fatal(UnimplementedOpcode, {0x10, PC0})` and changes no other state. -/
def stopOp (s : State) : Result := raiseFatal (.unimplementedOpcode 0x10 s.cpu.pc) s

/-- `DI` (R303). -/
def diOp (s : State) : Result := .next (advance 1 4 { s with cpu := { s.cpu with ime := false } })

/-- `EI` (R304): takes effect at once. -/
def eiOp (s : State) : Result := .next (advance 1 4 { s with cpu := { s.cpu with ime := true } })

/-- An illegal opcode (R305): raises `Fatal(UnmappedOpcode, {op, PC0})` and changes nothing else. -/
def illegalOp (op : Byte) (s : State) : Result := raiseFatal (.unmappedOpcode op s.cpu.pc) s

/-- `NOP` (R300). -/
def execNop (s : State) : Result := nopOp s

/-- `STOP` (R302): the byte after its opcode plays no part (log 10). -/
def execStop (s : State) : Result := stopOp s

/-- `HALT` (R301). -/
def execHalt (s : State) : Result := haltOp s

/-- `ILLEGAL 0xD3` (R305). -/
def execIllegal_D3 (s : State) : Result := illegalOp 0xD3 s

/-- `ILLEGAL 0xDB` (R305). -/
def execIllegal_DB (s : State) : Result := illegalOp 0xDB s

/-- `ILLEGAL 0xDD` (R305). -/
def execIllegal_DD (s : State) : Result := illegalOp 0xDD s

/-- `ILLEGAL 0xE3` (R305). -/
def execIllegal_E3 (s : State) : Result := illegalOp 0xE3 s

/-- `ILLEGAL 0xE4` (R305). -/
def execIllegal_E4 (s : State) : Result := illegalOp 0xE4 s

/-- `ILLEGAL 0xEB` (R305). -/
def execIllegal_EB (s : State) : Result := illegalOp 0xEB s

/-- `ILLEGAL 0xEC` (R305). -/
def execIllegal_EC (s : State) : Result := illegalOp 0xEC s

/-- `ILLEGAL 0xED` (R305). -/
def execIllegal_ED (s : State) : Result := illegalOp 0xED s

/-- `DI` (R303). -/
def execDi (s : State) : Result := diOp s

/-- `ILLEGAL 0xF4` (R305). -/
def execIllegal_F4 (s : State) : Result := illegalOp 0xF4 s

/-- `EI` (R304). -/
def execEi (s : State) : Result := eiOp s

/-- `ILLEGAL 0xFC` (R305). -/
def execIllegal_FC (s : State) : Result := illegalOp 0xFC s

/-- `ILLEGAL 0xFD` (R305). -/
def execIllegal_FD (s : State) : Result := illegalOp 0xFD s

end Sys2Proof.Machine
end

