-- ==== Sys2Proof/Machine/RotateShiftBit.lean ====
section
/-! DEFINITION. Rotates, shifts and bit operations (44_cpu_rotate_shift_bit.md): the shared operations, then one meaning per
opcode. -/

namespace Sys2Proof.Machine

/-- `RLCA`, `RRCA`, `RLA`, `RRA` (R250 to R253). -/
def rotAcc (op : RotAOp) (s : State) : Result :=
  let r := rotAByte op s.cpu.a (flagC s)
  .next (advance 1 4 (setF (setR8 s .a r.1) r.2))

/-- A CB rotate, shift or swap of a register (R254 to R262). -/
def rotReg (op : RotOp) (r : Reg8) (s : State) : Result :=
  let q := rotByte op (getR8 s r) (flagC s)
  .next (advance 2 8 (setF (setR8 s r q.1) (rotFlags q)))

/-- A CB rotate, shift or swap of the byte at HL (R254 to R262). -/
def rotMem (op : RotOp) (s : State) : Result :=
  withByte s (getHL s) fun v =>
    let q := rotByte op v (flagC s)
    storeByte s (getHL s) q.1 fun t => advance 2 16 (setF t (rotFlags q))

/-- The flags of `BIT b`: Z the complement of the bit, N = 0, H = 1, C kept (R263). -/
def bitFlags (v : Byte) (b : Nat) (c : Bool) : Byte := flagsByte (!bit v b) false true c

/-- `BIT b,r` (R263). -/
def bitReg (b : Nat) (r : Reg8) (s : State) : Result :=
  .next (advance 2 8 (setF s (bitFlags (getR8 s r) b (flagC s))))

/-- `BIT b,(HL)`: a read and no write (R263). -/
def bitMem (b : Nat) (s : State) : Result :=
  withByte s (getHL s) fun v => .next (advance 2 12 (setF s (bitFlags v b (flagC s))))

/-- `RES b,r` (R264). -/
def resReg (b : Nat) (r : Reg8) (s : State) : Result := .next (advance 2 8 (setR8 s r (resByte (getR8 s r) b)))

/-- `RES b,(HL)`: read and written back (R264). -/
def resMem (b : Nat) (s : State) : Result :=
  withByte s (getHL s) fun v => storeByte s (getHL s) (resByte v b) (advance 2 16)

/-- `SET b,r` (R265). -/
def setReg (b : Nat) (r : Reg8) (s : State) : Result := .next (advance 2 8 (setR8 s r (setByte (getR8 s r) b)))

/-- `SET b,(HL)`: read and written back (R265). -/
def setMem (b : Nat) (s : State) : Result :=
  withByte s (getHL s) fun v => storeByte s (getHL s) (setByte v b) (advance 2 16)

/-- The CB-table row `op2`, read from its fields (R130, R132, R306): what the prefix byte and the byte after it do
together. -/
def cbRun (op2 : Byte) (s : State) : Result :=
  let y := fieldY op2
  match fieldX op2, reg8Of (fieldZ op2) with
  | 0, some r => rotReg (rotOf y) r s
  | 0, none => rotMem (rotOf y) s
  | 1, some r => bitReg y r s
  | 1, none => bitMem y s
  | 2, some r => resReg y r s
  | 2, none => resMem y s
  | _, some r => setReg y r s
  | _, none => setMem y s

/-- `RLCA` (R250). -/
def execRlca (s : State) : Result := rotAcc .rlca s

/-- `RRCA` (R251). -/
def execRrca (s : State) : Result := rotAcc .rrca s

/-- `RLA` (R252). -/
def execRla (s : State) : Result := rotAcc .rla s

/-- `RRA` (R253). -/
def execRra (s : State) : Result := rotAcc .rra s

/-- `PREFIX CB` (R306). -/
def execPrefix_CB (op2 : Byte) (s : State) : Result := cbRun op2 s

/-- `RLC B` (R255). -/
def execRlc_B (s : State) : Result := rotReg .rlc .b s

/-- `RLC C` (R255). -/
def execRlc_C (s : State) : Result := rotReg .rlc .c s

/-- `RLC D` (R255). -/
def execRlc_D (s : State) : Result := rotReg .rlc .d s

/-- `RLC E` (R255). -/
def execRlc_E (s : State) : Result := rotReg .rlc .e s

/-- `RLC H` (R255). -/
def execRlc_H (s : State) : Result := rotReg .rlc .h s

/-- `RLC L` (R255). -/
def execRlc_L (s : State) : Result := rotReg .rlc .l s

/-- `RLC (HL)` (R255). -/
def execRlc_mHL (s : State) : Result := rotMem .rlc s

/-- `RLC A` (R255). -/
def execRlc_A (s : State) : Result := rotReg .rlc .a s

/-- `RRC B` (R256). -/
def execRrc_B (s : State) : Result := rotReg .rrc .b s

/-- `RRC C` (R256). -/
def execRrc_C (s : State) : Result := rotReg .rrc .c s

/-- `RRC D` (R256). -/
def execRrc_D (s : State) : Result := rotReg .rrc .d s

/-- `RRC E` (R256). -/
def execRrc_E (s : State) : Result := rotReg .rrc .e s

/-- `RRC H` (R256). -/
def execRrc_H (s : State) : Result := rotReg .rrc .h s

/-- `RRC L` (R256). -/
def execRrc_L (s : State) : Result := rotReg .rrc .l s

/-- `RRC (HL)` (R256). -/
def execRrc_mHL (s : State) : Result := rotMem .rrc s

/-- `RRC A` (R256). -/
def execRrc_A (s : State) : Result := rotReg .rrc .a s

/-- `RL B` (R257). -/
def execRl_B (s : State) : Result := rotReg .rl .b s

/-- `RL C` (R257). -/
def execRl_C (s : State) : Result := rotReg .rl .c s

/-- `RL D` (R257). -/
def execRl_D (s : State) : Result := rotReg .rl .d s

/-- `RL E` (R257). -/
def execRl_E (s : State) : Result := rotReg .rl .e s

/-- `RL H` (R257). -/
def execRl_H (s : State) : Result := rotReg .rl .h s

/-- `RL L` (R257). -/
def execRl_L (s : State) : Result := rotReg .rl .l s

/-- `RL (HL)` (R257). -/
def execRl_mHL (s : State) : Result := rotMem .rl s

/-- `RL A` (R257). -/
def execRl_A (s : State) : Result := rotReg .rl .a s

/-- `RR B` (R258). -/
def execRr_B (s : State) : Result := rotReg .rr .b s

/-- `RR C` (R258). -/
def execRr_C (s : State) : Result := rotReg .rr .c s

/-- `RR D` (R258). -/
def execRr_D (s : State) : Result := rotReg .rr .d s

/-- `RR E` (R258). -/
def execRr_E (s : State) : Result := rotReg .rr .e s

/-- `RR H` (R258). -/
def execRr_H (s : State) : Result := rotReg .rr .h s

/-- `RR L` (R258). -/
def execRr_L (s : State) : Result := rotReg .rr .l s

/-- `RR (HL)` (R258). -/
def execRr_mHL (s : State) : Result := rotMem .rr s

/-- `RR A` (R258). -/
def execRr_A (s : State) : Result := rotReg .rr .a s

/-- `SLA B` (R259). -/
def execSla_B (s : State) : Result := rotReg .sla .b s

/-- `SLA C` (R259). -/
def execSla_C (s : State) : Result := rotReg .sla .c s

/-- `SLA D` (R259). -/
def execSla_D (s : State) : Result := rotReg .sla .d s

/-- `SLA E` (R259). -/
def execSla_E (s : State) : Result := rotReg .sla .e s

/-- `SLA H` (R259). -/
def execSla_H (s : State) : Result := rotReg .sla .h s

/-- `SLA L` (R259). -/
def execSla_L (s : State) : Result := rotReg .sla .l s

/-- `SLA (HL)` (R259). -/
def execSla_mHL (s : State) : Result := rotMem .sla s

/-- `SLA A` (R259). -/
def execSla_A (s : State) : Result := rotReg .sla .a s

/-- `SRA B` (R260). -/
def execSra_B (s : State) : Result := rotReg .sra .b s

/-- `SRA C` (R260). -/
def execSra_C (s : State) : Result := rotReg .sra .c s

/-- `SRA D` (R260). -/
def execSra_D (s : State) : Result := rotReg .sra .d s

/-- `SRA E` (R260). -/
def execSra_E (s : State) : Result := rotReg .sra .e s

/-- `SRA H` (R260). -/
def execSra_H (s : State) : Result := rotReg .sra .h s

/-- `SRA L` (R260). -/
def execSra_L (s : State) : Result := rotReg .sra .l s

/-- `SRA (HL)` (R260). -/
def execSra_mHL (s : State) : Result := rotMem .sra s

/-- `SRA A` (R260). -/
def execSra_A (s : State) : Result := rotReg .sra .a s

/-- `SWAP B` (R261). -/
def execSwap_B (s : State) : Result := rotReg .swap .b s

/-- `SWAP C` (R261). -/
def execSwap_C (s : State) : Result := rotReg .swap .c s

/-- `SWAP D` (R261). -/
def execSwap_D (s : State) : Result := rotReg .swap .d s

/-- `SWAP E` (R261). -/
def execSwap_E (s : State) : Result := rotReg .swap .e s

/-- `SWAP H` (R261). -/
def execSwap_H (s : State) : Result := rotReg .swap .h s

/-- `SWAP L` (R261). -/
def execSwap_L (s : State) : Result := rotReg .swap .l s

/-- `SWAP (HL)` (R261). -/
def execSwap_mHL (s : State) : Result := rotMem .swap s

/-- `SWAP A` (R261). -/
def execSwap_A (s : State) : Result := rotReg .swap .a s

/-- `SRL B` (R262). -/
def execSrl_B (s : State) : Result := rotReg .srl .b s

/-- `SRL C` (R262). -/
def execSrl_C (s : State) : Result := rotReg .srl .c s

/-- `SRL D` (R262). -/
def execSrl_D (s : State) : Result := rotReg .srl .d s

/-- `SRL E` (R262). -/
def execSrl_E (s : State) : Result := rotReg .srl .e s

/-- `SRL H` (R262). -/
def execSrl_H (s : State) : Result := rotReg .srl .h s

/-- `SRL L` (R262). -/
def execSrl_L (s : State) : Result := rotReg .srl .l s

/-- `SRL (HL)` (R262). -/
def execSrl_mHL (s : State) : Result := rotMem .srl s

/-- `SRL A` (R262). -/
def execSrl_A (s : State) : Result := rotReg .srl .a s

/-- `BIT 0,B` (R263). -/
def execBit_0_B (s : State) : Result := bitReg 0 .b s

/-- `BIT 0,C` (R263). -/
def execBit_0_C (s : State) : Result := bitReg 0 .c s

/-- `BIT 0,D` (R263). -/
def execBit_0_D (s : State) : Result := bitReg 0 .d s

/-- `BIT 0,E` (R263). -/
def execBit_0_E (s : State) : Result := bitReg 0 .e s

/-- `BIT 0,H` (R263). -/
def execBit_0_H (s : State) : Result := bitReg 0 .h s

/-- `BIT 0,L` (R263). -/
def execBit_0_L (s : State) : Result := bitReg 0 .l s

/-- `BIT 0,(HL)` (R263). -/
def execBit_0_mHL (s : State) : Result := bitMem 0 s

/-- `BIT 0,A` (R263). -/
def execBit_0_A (s : State) : Result := bitReg 0 .a s

/-- `BIT 1,B` (R263). -/
def execBit_1_B (s : State) : Result := bitReg 1 .b s

/-- `BIT 1,C` (R263). -/
def execBit_1_C (s : State) : Result := bitReg 1 .c s

/-- `BIT 1,D` (R263). -/
def execBit_1_D (s : State) : Result := bitReg 1 .d s

/-- `BIT 1,E` (R263). -/
def execBit_1_E (s : State) : Result := bitReg 1 .e s

/-- `BIT 1,H` (R263). -/
def execBit_1_H (s : State) : Result := bitReg 1 .h s

/-- `BIT 1,L` (R263). -/
def execBit_1_L (s : State) : Result := bitReg 1 .l s

/-- `BIT 1,(HL)` (R263). -/
def execBit_1_mHL (s : State) : Result := bitMem 1 s

/-- `BIT 1,A` (R263). -/
def execBit_1_A (s : State) : Result := bitReg 1 .a s

/-- `BIT 2,B` (R263). -/
def execBit_2_B (s : State) : Result := bitReg 2 .b s

/-- `BIT 2,C` (R263). -/
def execBit_2_C (s : State) : Result := bitReg 2 .c s

/-- `BIT 2,D` (R263). -/
def execBit_2_D (s : State) : Result := bitReg 2 .d s

/-- `BIT 2,E` (R263). -/
def execBit_2_E (s : State) : Result := bitReg 2 .e s

/-- `BIT 2,H` (R263). -/
def execBit_2_H (s : State) : Result := bitReg 2 .h s

/-- `BIT 2,L` (R263). -/
def execBit_2_L (s : State) : Result := bitReg 2 .l s

/-- `BIT 2,(HL)` (R263). -/
def execBit_2_mHL (s : State) : Result := bitMem 2 s

/-- `BIT 2,A` (R263). -/
def execBit_2_A (s : State) : Result := bitReg 2 .a s

/-- `BIT 3,B` (R263). -/
def execBit_3_B (s : State) : Result := bitReg 3 .b s

/-- `BIT 3,C` (R263). -/
def execBit_3_C (s : State) : Result := bitReg 3 .c s

/-- `BIT 3,D` (R263). -/
def execBit_3_D (s : State) : Result := bitReg 3 .d s

/-- `BIT 3,E` (R263). -/
def execBit_3_E (s : State) : Result := bitReg 3 .e s

/-- `BIT 3,H` (R263). -/
def execBit_3_H (s : State) : Result := bitReg 3 .h s

/-- `BIT 3,L` (R263). -/
def execBit_3_L (s : State) : Result := bitReg 3 .l s

/-- `BIT 3,(HL)` (R263). -/
def execBit_3_mHL (s : State) : Result := bitMem 3 s

/-- `BIT 3,A` (R263). -/
def execBit_3_A (s : State) : Result := bitReg 3 .a s

/-- `BIT 4,B` (R263). -/
def execBit_4_B (s : State) : Result := bitReg 4 .b s

/-- `BIT 4,C` (R263). -/
def execBit_4_C (s : State) : Result := bitReg 4 .c s

/-- `BIT 4,D` (R263). -/
def execBit_4_D (s : State) : Result := bitReg 4 .d s

/-- `BIT 4,E` (R263). -/
def execBit_4_E (s : State) : Result := bitReg 4 .e s

/-- `BIT 4,H` (R263). -/
def execBit_4_H (s : State) : Result := bitReg 4 .h s

/-- `BIT 4,L` (R263). -/
def execBit_4_L (s : State) : Result := bitReg 4 .l s

/-- `BIT 4,(HL)` (R263). -/
def execBit_4_mHL (s : State) : Result := bitMem 4 s

/-- `BIT 4,A` (R263). -/
def execBit_4_A (s : State) : Result := bitReg 4 .a s

/-- `BIT 5,B` (R263). -/
def execBit_5_B (s : State) : Result := bitReg 5 .b s

/-- `BIT 5,C` (R263). -/
def execBit_5_C (s : State) : Result := bitReg 5 .c s

/-- `BIT 5,D` (R263). -/
def execBit_5_D (s : State) : Result := bitReg 5 .d s

/-- `BIT 5,E` (R263). -/
def execBit_5_E (s : State) : Result := bitReg 5 .e s

/-- `BIT 5,H` (R263). -/
def execBit_5_H (s : State) : Result := bitReg 5 .h s

/-- `BIT 5,L` (R263). -/
def execBit_5_L (s : State) : Result := bitReg 5 .l s

/-- `BIT 5,(HL)` (R263). -/
def execBit_5_mHL (s : State) : Result := bitMem 5 s

/-- `BIT 5,A` (R263). -/
def execBit_5_A (s : State) : Result := bitReg 5 .a s

/-- `BIT 6,B` (R263). -/
def execBit_6_B (s : State) : Result := bitReg 6 .b s

/-- `BIT 6,C` (R263). -/
def execBit_6_C (s : State) : Result := bitReg 6 .c s

/-- `BIT 6,D` (R263). -/
def execBit_6_D (s : State) : Result := bitReg 6 .d s

/-- `BIT 6,E` (R263). -/
def execBit_6_E (s : State) : Result := bitReg 6 .e s

/-- `BIT 6,H` (R263). -/
def execBit_6_H (s : State) : Result := bitReg 6 .h s

/-- `BIT 6,L` (R263). -/
def execBit_6_L (s : State) : Result := bitReg 6 .l s

/-- `BIT 6,(HL)` (R263). -/
def execBit_6_mHL (s : State) : Result := bitMem 6 s

/-- `BIT 6,A` (R263). -/
def execBit_6_A (s : State) : Result := bitReg 6 .a s

/-- `BIT 7,B` (R263). -/
def execBit_7_B (s : State) : Result := bitReg 7 .b s

/-- `BIT 7,C` (R263). -/
def execBit_7_C (s : State) : Result := bitReg 7 .c s

/-- `BIT 7,D` (R263). -/
def execBit_7_D (s : State) : Result := bitReg 7 .d s

/-- `BIT 7,E` (R263). -/
def execBit_7_E (s : State) : Result := bitReg 7 .e s

/-- `BIT 7,H` (R263). -/
def execBit_7_H (s : State) : Result := bitReg 7 .h s

/-- `BIT 7,L` (R263). -/
def execBit_7_L (s : State) : Result := bitReg 7 .l s

/-- `BIT 7,(HL)` (R263). -/
def execBit_7_mHL (s : State) : Result := bitMem 7 s

/-- `BIT 7,A` (R263). -/
def execBit_7_A (s : State) : Result := bitReg 7 .a s

/-- `RES 0,B` (R264). -/
def execRes_0_B (s : State) : Result := resReg 0 .b s

/-- `RES 0,C` (R264). -/
def execRes_0_C (s : State) : Result := resReg 0 .c s

/-- `RES 0,D` (R264). -/
def execRes_0_D (s : State) : Result := resReg 0 .d s

/-- `RES 0,E` (R264). -/
def execRes_0_E (s : State) : Result := resReg 0 .e s

/-- `RES 0,H` (R264). -/
def execRes_0_H (s : State) : Result := resReg 0 .h s

/-- `RES 0,L` (R264). -/
def execRes_0_L (s : State) : Result := resReg 0 .l s

/-- `RES 0,(HL)` (R264). -/
def execRes_0_mHL (s : State) : Result := resMem 0 s

/-- `RES 0,A` (R264). -/
def execRes_0_A (s : State) : Result := resReg 0 .a s

/-- `RES 1,B` (R264). -/
def execRes_1_B (s : State) : Result := resReg 1 .b s

/-- `RES 1,C` (R264). -/
def execRes_1_C (s : State) : Result := resReg 1 .c s

/-- `RES 1,D` (R264). -/
def execRes_1_D (s : State) : Result := resReg 1 .d s

/-- `RES 1,E` (R264). -/
def execRes_1_E (s : State) : Result := resReg 1 .e s

/-- `RES 1,H` (R264). -/
def execRes_1_H (s : State) : Result := resReg 1 .h s

/-- `RES 1,L` (R264). -/
def execRes_1_L (s : State) : Result := resReg 1 .l s

/-- `RES 1,(HL)` (R264). -/
def execRes_1_mHL (s : State) : Result := resMem 1 s

/-- `RES 1,A` (R264). -/
def execRes_1_A (s : State) : Result := resReg 1 .a s

/-- `RES 2,B` (R264). -/
def execRes_2_B (s : State) : Result := resReg 2 .b s

/-- `RES 2,C` (R264). -/
def execRes_2_C (s : State) : Result := resReg 2 .c s

/-- `RES 2,D` (R264). -/
def execRes_2_D (s : State) : Result := resReg 2 .d s

/-- `RES 2,E` (R264). -/
def execRes_2_E (s : State) : Result := resReg 2 .e s

/-- `RES 2,H` (R264). -/
def execRes_2_H (s : State) : Result := resReg 2 .h s

/-- `RES 2,L` (R264). -/
def execRes_2_L (s : State) : Result := resReg 2 .l s

/-- `RES 2,(HL)` (R264). -/
def execRes_2_mHL (s : State) : Result := resMem 2 s

/-- `RES 2,A` (R264). -/
def execRes_2_A (s : State) : Result := resReg 2 .a s

/-- `RES 3,B` (R264). -/
def execRes_3_B (s : State) : Result := resReg 3 .b s

/-- `RES 3,C` (R264). -/
def execRes_3_C (s : State) : Result := resReg 3 .c s

/-- `RES 3,D` (R264). -/
def execRes_3_D (s : State) : Result := resReg 3 .d s

/-- `RES 3,E` (R264). -/
def execRes_3_E (s : State) : Result := resReg 3 .e s

/-- `RES 3,H` (R264). -/
def execRes_3_H (s : State) : Result := resReg 3 .h s

/-- `RES 3,L` (R264). -/
def execRes_3_L (s : State) : Result := resReg 3 .l s

/-- `RES 3,(HL)` (R264). -/
def execRes_3_mHL (s : State) : Result := resMem 3 s

/-- `RES 3,A` (R264). -/
def execRes_3_A (s : State) : Result := resReg 3 .a s

/-- `RES 4,B` (R264). -/
def execRes_4_B (s : State) : Result := resReg 4 .b s

/-- `RES 4,C` (R264). -/
def execRes_4_C (s : State) : Result := resReg 4 .c s

/-- `RES 4,D` (R264). -/
def execRes_4_D (s : State) : Result := resReg 4 .d s

/-- `RES 4,E` (R264). -/
def execRes_4_E (s : State) : Result := resReg 4 .e s

/-- `RES 4,H` (R264). -/
def execRes_4_H (s : State) : Result := resReg 4 .h s

/-- `RES 4,L` (R264). -/
def execRes_4_L (s : State) : Result := resReg 4 .l s

/-- `RES 4,(HL)` (R264). -/
def execRes_4_mHL (s : State) : Result := resMem 4 s

/-- `RES 4,A` (R264). -/
def execRes_4_A (s : State) : Result := resReg 4 .a s

/-- `RES 5,B` (R264). -/
def execRes_5_B (s : State) : Result := resReg 5 .b s

/-- `RES 5,C` (R264). -/
def execRes_5_C (s : State) : Result := resReg 5 .c s

/-- `RES 5,D` (R264). -/
def execRes_5_D (s : State) : Result := resReg 5 .d s

/-- `RES 5,E` (R264). -/
def execRes_5_E (s : State) : Result := resReg 5 .e s

/-- `RES 5,H` (R264). -/
def execRes_5_H (s : State) : Result := resReg 5 .h s

/-- `RES 5,L` (R264). -/
def execRes_5_L (s : State) : Result := resReg 5 .l s

/-- `RES 5,(HL)` (R264). -/
def execRes_5_mHL (s : State) : Result := resMem 5 s

/-- `RES 5,A` (R264). -/
def execRes_5_A (s : State) : Result := resReg 5 .a s

/-- `RES 6,B` (R264). -/
def execRes_6_B (s : State) : Result := resReg 6 .b s

/-- `RES 6,C` (R264). -/
def execRes_6_C (s : State) : Result := resReg 6 .c s

/-- `RES 6,D` (R264). -/
def execRes_6_D (s : State) : Result := resReg 6 .d s

/-- `RES 6,E` (R264). -/
def execRes_6_E (s : State) : Result := resReg 6 .e s

/-- `RES 6,H` (R264). -/
def execRes_6_H (s : State) : Result := resReg 6 .h s

/-- `RES 6,L` (R264). -/
def execRes_6_L (s : State) : Result := resReg 6 .l s

/-- `RES 6,(HL)` (R264). -/
def execRes_6_mHL (s : State) : Result := resMem 6 s

/-- `RES 6,A` (R264). -/
def execRes_6_A (s : State) : Result := resReg 6 .a s

/-- `RES 7,B` (R264). -/
def execRes_7_B (s : State) : Result := resReg 7 .b s

/-- `RES 7,C` (R264). -/
def execRes_7_C (s : State) : Result := resReg 7 .c s

/-- `RES 7,D` (R264). -/
def execRes_7_D (s : State) : Result := resReg 7 .d s

/-- `RES 7,E` (R264). -/
def execRes_7_E (s : State) : Result := resReg 7 .e s

/-- `RES 7,H` (R264). -/
def execRes_7_H (s : State) : Result := resReg 7 .h s

/-- `RES 7,L` (R264). -/
def execRes_7_L (s : State) : Result := resReg 7 .l s

/-- `RES 7,(HL)` (R264). -/
def execRes_7_mHL (s : State) : Result := resMem 7 s

/-- `RES 7,A` (R264). -/
def execRes_7_A (s : State) : Result := resReg 7 .a s

/-- `SET 0,B` (R265). -/
def execSet_0_B (s : State) : Result := setReg 0 .b s

/-- `SET 0,C` (R265). -/
def execSet_0_C (s : State) : Result := setReg 0 .c s

/-- `SET 0,D` (R265). -/
def execSet_0_D (s : State) : Result := setReg 0 .d s

/-- `SET 0,E` (R265). -/
def execSet_0_E (s : State) : Result := setReg 0 .e s

/-- `SET 0,H` (R265). -/
def execSet_0_H (s : State) : Result := setReg 0 .h s

/-- `SET 0,L` (R265). -/
def execSet_0_L (s : State) : Result := setReg 0 .l s

/-- `SET 0,(HL)` (R265). -/
def execSet_0_mHL (s : State) : Result := setMem 0 s

/-- `SET 0,A` (R265). -/
def execSet_0_A (s : State) : Result := setReg 0 .a s

/-- `SET 1,B` (R265). -/
def execSet_1_B (s : State) : Result := setReg 1 .b s

/-- `SET 1,C` (R265). -/
def execSet_1_C (s : State) : Result := setReg 1 .c s

/-- `SET 1,D` (R265). -/
def execSet_1_D (s : State) : Result := setReg 1 .d s

/-- `SET 1,E` (R265). -/
def execSet_1_E (s : State) : Result := setReg 1 .e s

/-- `SET 1,H` (R265). -/
def execSet_1_H (s : State) : Result := setReg 1 .h s

/-- `SET 1,L` (R265). -/
def execSet_1_L (s : State) : Result := setReg 1 .l s

/-- `SET 1,(HL)` (R265). -/
def execSet_1_mHL (s : State) : Result := setMem 1 s

/-- `SET 1,A` (R265). -/
def execSet_1_A (s : State) : Result := setReg 1 .a s

/-- `SET 2,B` (R265). -/
def execSet_2_B (s : State) : Result := setReg 2 .b s

/-- `SET 2,C` (R265). -/
def execSet_2_C (s : State) : Result := setReg 2 .c s

/-- `SET 2,D` (R265). -/
def execSet_2_D (s : State) : Result := setReg 2 .d s

/-- `SET 2,E` (R265). -/
def execSet_2_E (s : State) : Result := setReg 2 .e s

/-- `SET 2,H` (R265). -/
def execSet_2_H (s : State) : Result := setReg 2 .h s

/-- `SET 2,L` (R265). -/
def execSet_2_L (s : State) : Result := setReg 2 .l s

/-- `SET 2,(HL)` (R265). -/
def execSet_2_mHL (s : State) : Result := setMem 2 s

/-- `SET 2,A` (R265). -/
def execSet_2_A (s : State) : Result := setReg 2 .a s

/-- `SET 3,B` (R265). -/
def execSet_3_B (s : State) : Result := setReg 3 .b s

/-- `SET 3,C` (R265). -/
def execSet_3_C (s : State) : Result := setReg 3 .c s

/-- `SET 3,D` (R265). -/
def execSet_3_D (s : State) : Result := setReg 3 .d s

/-- `SET 3,E` (R265). -/
def execSet_3_E (s : State) : Result := setReg 3 .e s

/-- `SET 3,H` (R265). -/
def execSet_3_H (s : State) : Result := setReg 3 .h s

/-- `SET 3,L` (R265). -/
def execSet_3_L (s : State) : Result := setReg 3 .l s

/-- `SET 3,(HL)` (R265). -/
def execSet_3_mHL (s : State) : Result := setMem 3 s

/-- `SET 3,A` (R265). -/
def execSet_3_A (s : State) : Result := setReg 3 .a s

/-- `SET 4,B` (R265). -/
def execSet_4_B (s : State) : Result := setReg 4 .b s

/-- `SET 4,C` (R265). -/
def execSet_4_C (s : State) : Result := setReg 4 .c s

/-- `SET 4,D` (R265). -/
def execSet_4_D (s : State) : Result := setReg 4 .d s

/-- `SET 4,E` (R265). -/
def execSet_4_E (s : State) : Result := setReg 4 .e s

/-- `SET 4,H` (R265). -/
def execSet_4_H (s : State) : Result := setReg 4 .h s

/-- `SET 4,L` (R265). -/
def execSet_4_L (s : State) : Result := setReg 4 .l s

/-- `SET 4,(HL)` (R265). -/
def execSet_4_mHL (s : State) : Result := setMem 4 s

/-- `SET 4,A` (R265). -/
def execSet_4_A (s : State) : Result := setReg 4 .a s

/-- `SET 5,B` (R265). -/
def execSet_5_B (s : State) : Result := setReg 5 .b s

/-- `SET 5,C` (R265). -/
def execSet_5_C (s : State) : Result := setReg 5 .c s

/-- `SET 5,D` (R265). -/
def execSet_5_D (s : State) : Result := setReg 5 .d s

/-- `SET 5,E` (R265). -/
def execSet_5_E (s : State) : Result := setReg 5 .e s

/-- `SET 5,H` (R265). -/
def execSet_5_H (s : State) : Result := setReg 5 .h s

/-- `SET 5,L` (R265). -/
def execSet_5_L (s : State) : Result := setReg 5 .l s

/-- `SET 5,(HL)` (R265). -/
def execSet_5_mHL (s : State) : Result := setMem 5 s

/-- `SET 5,A` (R265). -/
def execSet_5_A (s : State) : Result := setReg 5 .a s

/-- `SET 6,B` (R265). -/
def execSet_6_B (s : State) : Result := setReg 6 .b s

/-- `SET 6,C` (R265). -/
def execSet_6_C (s : State) : Result := setReg 6 .c s

/-- `SET 6,D` (R265). -/
def execSet_6_D (s : State) : Result := setReg 6 .d s

/-- `SET 6,E` (R265). -/
def execSet_6_E (s : State) : Result := setReg 6 .e s

/-- `SET 6,H` (R265). -/
def execSet_6_H (s : State) : Result := setReg 6 .h s

/-- `SET 6,L` (R265). -/
def execSet_6_L (s : State) : Result := setReg 6 .l s

/-- `SET 6,(HL)` (R265). -/
def execSet_6_mHL (s : State) : Result := setMem 6 s

/-- `SET 6,A` (R265). -/
def execSet_6_A (s : State) : Result := setReg 6 .a s

/-- `SET 7,B` (R265). -/
def execSet_7_B (s : State) : Result := setReg 7 .b s

/-- `SET 7,C` (R265). -/
def execSet_7_C (s : State) : Result := setReg 7 .c s

/-- `SET 7,D` (R265). -/
def execSet_7_D (s : State) : Result := setReg 7 .d s

/-- `SET 7,E` (R265). -/
def execSet_7_E (s : State) : Result := setReg 7 .e s

/-- `SET 7,H` (R265). -/
def execSet_7_H (s : State) : Result := setReg 7 .h s

/-- `SET 7,L` (R265). -/
def execSet_7_L (s : State) : Result := setReg 7 .l s

/-- `SET 7,(HL)` (R265). -/
def execSet_7_mHL (s : State) : Result := setMem 7 s

/-- `SET 7,A` (R265). -/
def execSet_7_A (s : State) : Result := setReg 7 .a s

end Sys2Proof.Machine
end

