-- ==== Sys2Proof/Syntax.lean ====
section
/-! DEFINITION. The instructions: one constructor per row of spec/opcode_table.json (30_encoding.md R131, R132).
Names follow the mnemonic: `ld_B_C` is `LD B,C`, `ld_A_mHLinc` is `LD A,(HL+)`, an operand `m..` is a byte of memory. Immediates are
arguments: `n` or `e` the byte after the opcode, `nn` the two bytes after it, low byte first (R129). The rows with operand bytes
stand first, then the others, each group in the order of the table. -/

namespace Sys2Proof

/-- One constructor per opcode. `prefix_CB op2` is the row of the prefix byte, which is no instruction on its own
(R306): the decoder never gives it (log 8). The eleven `illegal_..` rows are the opcodes of R133. -/
inductive Instr where
  /-- LD BC,nn : R180. -/
  | ld_BC_nn (nn : Word)
  /-- LD B,n : R152. -/
  | ld_B_n (n : Byte)
  /-- LD (nn),SP : R181. -/
  | ld_mnn_SP (nn : Word)
  /-- LD C,n : R152. -/
  | ld_C_n (n : Byte)
  /-- LD DE,nn : R180. -/
  | ld_DE_nn (nn : Word)
  /-- LD D,n : R152. -/
  | ld_D_n (n : Byte)
  /-- JR e : R284. -/
  | jr_e (e : Byte)
  /-- LD E,n : R152. -/
  | ld_E_n (n : Byte)
  /-- JR NZ,e : R285. -/
  | jr_NZ_e (e : Byte)
  /-- LD HL,nn : R180. -/
  | ld_HL_nn (nn : Word)
  /-- LD H,n : R152. -/
  | ld_H_n (n : Byte)
  /-- JR Z,e : R285. -/
  | jr_Z_e (e : Byte)
  /-- LD L,n : R152. -/
  | ld_L_n (n : Byte)
  /-- JR NC,e : R285. -/
  | jr_NC_e (e : Byte)
  /-- LD SP,nn : R180. -/
  | ld_SP_nn (nn : Word)
  /-- LD (HL),n : R155. -/
  | ld_mHL_n (n : Byte)
  /-- JR C,e : R285. -/
  | jr_C_e (e : Byte)
  /-- LD A,n : R152. -/
  | ld_A_n (n : Byte)
  /-- JP NZ,nn : R282. -/
  | jp_NZ_nn (nn : Word)
  /-- JP nn : R281. -/
  | jp_nn (nn : Word)
  /-- CALL NZ,nn : R287. -/
  | call_NZ_nn (nn : Word)
  /-- ADD A,n : R202. -/
  | add_A_n (n : Byte)
  /-- JP Z,nn : R282. -/
  | jp_Z_nn (nn : Word)
  /-- PREFIX CB : R306. -/
  | prefix_CB (op2 : Byte)
  /-- CALL Z,nn : R287. -/
  | call_Z_nn (nn : Word)
  /-- CALL nn : R286. -/
  | call_nn (nn : Word)
  /-- ADC A,n : R203. -/
  | adc_A_n (n : Byte)
  /-- JP NC,nn : R282. -/
  | jp_NC_nn (nn : Word)
  /-- CALL NC,nn : R287. -/
  | call_NC_nn (nn : Word)
  /-- SUB n : R204. -/
  | sub_n (n : Byte)
  /-- JP C,nn : R282. -/
  | jp_C_nn (nn : Word)
  /-- CALL C,nn : R287. -/
  | call_C_nn (nn : Word)
  /-- SBC A,n : R205. -/
  | sbc_A_n (n : Byte)
  /-- LDH (n),A : R163. -/
  | ldh_mn_A (n : Byte)
  /-- AND n : R206. -/
  | and_n (n : Byte)
  /-- ADD SP,e : R243. -/
  | add_SP_e (e : Byte)
  /-- LD (nn),A : R161. -/
  | ld_mnn_A (nn : Word)
  /-- XOR n : R207. -/
  | xor_n (n : Byte)
  /-- LDH A,(n) : R162. -/
  | ldh_A_mn (n : Byte)
  /-- OR n : R208. -/
  | or_n (n : Byte)
  /-- LD HL,SP+e : R183. -/
  | ld_HL_SPe (e : Byte)
  /-- LD A,(nn) : R160. -/
  | ld_A_mnn (nn : Word)
  /-- CP n : R209. -/
  | cp_n (n : Byte)
  /-- NOP : R300. -/
  | nop
  /-- LD (BC),A : R158. -/
  | ld_mBC_A
  /-- INC BC : R241. -/
  | inc_BC
  /-- INC B : R210. -/
  | inc_B
  /-- DEC B : R212. -/
  | dec_B
  /-- RLCA : R250. -/
  | rlca
  /-- ADD HL,BC : R240. -/
  | add_HL_BC
  /-- LD A,(BC) : R156. -/
  | ld_A_mBC
  /-- DEC BC : R242. -/
  | dec_BC
  /-- INC C : R210. -/
  | inc_C
  /-- DEC C : R212. -/
  | dec_C
  /-- RRCA : R251. -/
  | rrca
  /-- STOP : R302; the byte after the opcode is skipped, and assemblers write 0x00 there (log 10). -/
  | stop (skipped : Byte := 0x00)
  /-- LD (DE),A : R159. -/
  | ld_mDE_A
  /-- INC DE : R241. -/
  | inc_DE
  /-- INC D : R210. -/
  | inc_D
  /-- DEC D : R212. -/
  | dec_D
  /-- RLA : R252. -/
  | rla
  /-- ADD HL,DE : R240. -/
  | add_HL_DE
  /-- LD A,(DE) : R157. -/
  | ld_A_mDE
  /-- DEC DE : R242. -/
  | dec_DE
  /-- INC E : R210. -/
  | inc_E
  /-- DEC E : R212. -/
  | dec_E
  /-- RRA : R253. -/
  | rra
  /-- LD (HL+),A : R168. -/
  | ld_mHLinc_A
  /-- INC HL : R241. -/
  | inc_HL
  /-- INC H : R210. -/
  | inc_H
  /-- DEC H : R212. -/
  | dec_H
  /-- DAA : R214. -/
  | daa
  /-- ADD HL,HL : R240. -/
  | add_HL_HL
  /-- LD A,(HL+) : R166. -/
  | ld_A_mHLinc
  /-- DEC HL : R242. -/
  | dec_HL
  /-- INC L : R210. -/
  | inc_L
  /-- DEC L : R212. -/
  | dec_L
  /-- CPL : R215. -/
  | cpl
  /-- LD (HL-),A : R169. -/
  | ld_mHLdec_A
  /-- INC SP : R241. -/
  | inc_SP
  /-- INC (HL) : R211. -/
  | inc_mHL
  /-- DEC (HL) : R213. -/
  | dec_mHL
  /-- SCF : R216. -/
  | scf
  /-- ADD HL,SP : R240. -/
  | add_HL_SP
  /-- LD A,(HL-) : R167. -/
  | ld_A_mHLdec
  /-- DEC SP : R242. -/
  | dec_SP
  /-- INC A : R210. -/
  | inc_A
  /-- DEC A : R212. -/
  | dec_A
  /-- CCF : R217. -/
  | ccf
  /-- LD B,B : R151. -/
  | ld_B_B
  /-- LD B,C : R151. -/
  | ld_B_C
  /-- LD B,D : R151. -/
  | ld_B_D
  /-- LD B,E : R151. -/
  | ld_B_E
  /-- LD B,H : R151. -/
  | ld_B_H
  /-- LD B,L : R151. -/
  | ld_B_L
  /-- LD B,(HL) : R153. -/
  | ld_B_mHL
  /-- LD B,A : R151. -/
  | ld_B_A
  /-- LD C,B : R151. -/
  | ld_C_B
  /-- LD C,C : R151. -/
  | ld_C_C
  /-- LD C,D : R151. -/
  | ld_C_D
  /-- LD C,E : R151. -/
  | ld_C_E
  /-- LD C,H : R151. -/
  | ld_C_H
  /-- LD C,L : R151. -/
  | ld_C_L
  /-- LD C,(HL) : R153. -/
  | ld_C_mHL
  /-- LD C,A : R151. -/
  | ld_C_A
  /-- LD D,B : R151. -/
  | ld_D_B
  /-- LD D,C : R151. -/
  | ld_D_C
  /-- LD D,D : R151. -/
  | ld_D_D
  /-- LD D,E : R151. -/
  | ld_D_E
  /-- LD D,H : R151. -/
  | ld_D_H
  /-- LD D,L : R151. -/
  | ld_D_L
  /-- LD D,(HL) : R153. -/
  | ld_D_mHL
  /-- LD D,A : R151. -/
  | ld_D_A
  /-- LD E,B : R151. -/
  | ld_E_B
  /-- LD E,C : R151. -/
  | ld_E_C
  /-- LD E,D : R151. -/
  | ld_E_D
  /-- LD E,E : R151. -/
  | ld_E_E
  /-- LD E,H : R151. -/
  | ld_E_H
  /-- LD E,L : R151. -/
  | ld_E_L
  /-- LD E,(HL) : R153. -/
  | ld_E_mHL
  /-- LD E,A : R151. -/
  | ld_E_A
  /-- LD H,B : R151. -/
  | ld_H_B
  /-- LD H,C : R151. -/
  | ld_H_C
  /-- LD H,D : R151. -/
  | ld_H_D
  /-- LD H,E : R151. -/
  | ld_H_E
  /-- LD H,H : R151. -/
  | ld_H_H
  /-- LD H,L : R151. -/
  | ld_H_L
  /-- LD H,(HL) : R153. -/
  | ld_H_mHL
  /-- LD H,A : R151. -/
  | ld_H_A
  /-- LD L,B : R151. -/
  | ld_L_B
  /-- LD L,C : R151. -/
  | ld_L_C
  /-- LD L,D : R151. -/
  | ld_L_D
  /-- LD L,E : R151. -/
  | ld_L_E
  /-- LD L,H : R151. -/
  | ld_L_H
  /-- LD L,L : R151. -/
  | ld_L_L
  /-- LD L,(HL) : R153. -/
  | ld_L_mHL
  /-- LD L,A : R151. -/
  | ld_L_A
  /-- LD (HL),B : R154. -/
  | ld_mHL_B
  /-- LD (HL),C : R154. -/
  | ld_mHL_C
  /-- LD (HL),D : R154. -/
  | ld_mHL_D
  /-- LD (HL),E : R154. -/
  | ld_mHL_E
  /-- LD (HL),H : R154. -/
  | ld_mHL_H
  /-- LD (HL),L : R154. -/
  | ld_mHL_L
  /-- HALT : R301. -/
  | halt
  /-- LD (HL),A : R154. -/
  | ld_mHL_A
  /-- LD A,B : R151. -/
  | ld_A_B
  /-- LD A,C : R151. -/
  | ld_A_C
  /-- LD A,D : R151. -/
  | ld_A_D
  /-- LD A,E : R151. -/
  | ld_A_E
  /-- LD A,H : R151. -/
  | ld_A_H
  /-- LD A,L : R151. -/
  | ld_A_L
  /-- LD A,(HL) : R153. -/
  | ld_A_mHL
  /-- LD A,A : R151. -/
  | ld_A_A
  /-- ADD A,B : R202. -/
  | add_A_B
  /-- ADD A,C : R202. -/
  | add_A_C
  /-- ADD A,D : R202. -/
  | add_A_D
  /-- ADD A,E : R202. -/
  | add_A_E
  /-- ADD A,H : R202. -/
  | add_A_H
  /-- ADD A,L : R202. -/
  | add_A_L
  /-- ADD A,(HL) : R202. -/
  | add_A_mHL
  /-- ADD A,A : R202. -/
  | add_A_A
  /-- ADC A,B : R203. -/
  | adc_A_B
  /-- ADC A,C : R203. -/
  | adc_A_C
  /-- ADC A,D : R203. -/
  | adc_A_D
  /-- ADC A,E : R203. -/
  | adc_A_E
  /-- ADC A,H : R203. -/
  | adc_A_H
  /-- ADC A,L : R203. -/
  | adc_A_L
  /-- ADC A,(HL) : R203. -/
  | adc_A_mHL
  /-- ADC A,A : R203. -/
  | adc_A_A
  /-- SUB B : R204. -/
  | sub_B
  /-- SUB C : R204. -/
  | sub_C
  /-- SUB D : R204. -/
  | sub_D
  /-- SUB E : R204. -/
  | sub_E
  /-- SUB H : R204. -/
  | sub_H
  /-- SUB L : R204. -/
  | sub_L
  /-- SUB (HL) : R204. -/
  | sub_mHL
  /-- SUB A : R204. -/
  | sub_A
  /-- SBC A,B : R205. -/
  | sbc_A_B
  /-- SBC A,C : R205. -/
  | sbc_A_C
  /-- SBC A,D : R205. -/
  | sbc_A_D
  /-- SBC A,E : R205. -/
  | sbc_A_E
  /-- SBC A,H : R205. -/
  | sbc_A_H
  /-- SBC A,L : R205. -/
  | sbc_A_L
  /-- SBC A,(HL) : R205. -/
  | sbc_A_mHL
  /-- SBC A,A : R205. -/
  | sbc_A_A
  /-- AND B : R206. -/
  | and_B
  /-- AND C : R206. -/
  | and_C
  /-- AND D : R206. -/
  | and_D
  /-- AND E : R206. -/
  | and_E
  /-- AND H : R206. -/
  | and_H
  /-- AND L : R206. -/
  | and_L
  /-- AND (HL) : R206. -/
  | and_mHL
  /-- AND A : R206. -/
  | and_A
  /-- XOR B : R207. -/
  | xor_B
  /-- XOR C : R207. -/
  | xor_C
  /-- XOR D : R207. -/
  | xor_D
  /-- XOR E : R207. -/
  | xor_E
  /-- XOR H : R207. -/
  | xor_H
  /-- XOR L : R207. -/
  | xor_L
  /-- XOR (HL) : R207. -/
  | xor_mHL
  /-- XOR A : R207. -/
  | xor_A
  /-- OR B : R208. -/
  | or_B
  /-- OR C : R208. -/
  | or_C
  /-- OR D : R208. -/
  | or_D
  /-- OR E : R208. -/
  | or_E
  /-- OR H : R208. -/
  | or_H
  /-- OR L : R208. -/
  | or_L
  /-- OR (HL) : R208. -/
  | or_mHL
  /-- OR A : R208. -/
  | or_A
  /-- CP B : R209. -/
  | cp_B
  /-- CP C : R209. -/
  | cp_C
  /-- CP D : R209. -/
  | cp_D
  /-- CP E : R209. -/
  | cp_E
  /-- CP H : R209. -/
  | cp_H
  /-- CP L : R209. -/
  | cp_L
  /-- CP (HL) : R209. -/
  | cp_mHL
  /-- CP A : R209. -/
  | cp_A
  /-- RET NZ : R289. -/
  | ret_NZ
  /-- POP BC : R185. -/
  | pop_BC
  /-- PUSH BC : R184. -/
  | push_BC
  /-- RST 0x00 : R290. -/
  | rst_00
  /-- RET Z : R289. -/
  | ret_Z
  /-- RET : R288. -/
  | ret
  /-- RST 0x08 : R290. -/
  | rst_08
  /-- RET NC : R289. -/
  | ret_NC
  /-- POP DE : R185. -/
  | pop_DE
  /-- ILLEGAL 0xD3 : R305. -/
  | illegal_D3
  /-- PUSH DE : R184. -/
  | push_DE
  /-- RST 0x10 : R290. -/
  | rst_10
  /-- RET C : R289. -/
  | ret_C
  /-- RETI : R291. -/
  | reti
  /-- ILLEGAL 0xDB : R305. -/
  | illegal_DB
  /-- ILLEGAL 0xDD : R305. -/
  | illegal_DD
  /-- RST 0x18 : R290. -/
  | rst_18
  /-- POP HL : R185. -/
  | pop_HL
  /-- LD (C),A : R165. -/
  | ld_mC_A
  /-- ILLEGAL 0xE3 : R305. -/
  | illegal_E3
  /-- ILLEGAL 0xE4 : R305. -/
  | illegal_E4
  /-- PUSH HL : R184. -/
  | push_HL
  /-- RST 0x20 : R290. -/
  | rst_20
  /-- JP HL : R283. -/
  | jp_HL
  /-- ILLEGAL 0xEB : R305. -/
  | illegal_EB
  /-- ILLEGAL 0xEC : R305. -/
  | illegal_EC
  /-- ILLEGAL 0xED : R305. -/
  | illegal_ED
  /-- RST 0x28 : R290. -/
  | rst_28
  /-- POP AF : R185. -/
  | pop_AF
  /-- LD A,(C) : R164. -/
  | ld_A_mC
  /-- DI : R303. -/
  | di
  /-- ILLEGAL 0xF4 : R305. -/
  | illegal_F4
  /-- PUSH AF : R184. -/
  | push_AF
  /-- RST 0x30 : R290. -/
  | rst_30
  /-- LD SP,HL : R182. -/
  | ld_SP_HL
  /-- EI : R304. -/
  | ei
  /-- ILLEGAL 0xFC : R305. -/
  | illegal_FC
  /-- ILLEGAL 0xFD : R305. -/
  | illegal_FD
  /-- RST 0x38 : R290. -/
  | rst_38
  /-- RLC B : R255. -/
  | rlc_B
  /-- RLC C : R255. -/
  | rlc_C
  /-- RLC D : R255. -/
  | rlc_D
  /-- RLC E : R255. -/
  | rlc_E
  /-- RLC H : R255. -/
  | rlc_H
  /-- RLC L : R255. -/
  | rlc_L
  /-- RLC (HL) : R255. -/
  | rlc_mHL
  /-- RLC A : R255. -/
  | rlc_A
  /-- RRC B : R256. -/
  | rrc_B
  /-- RRC C : R256. -/
  | rrc_C
  /-- RRC D : R256. -/
  | rrc_D
  /-- RRC E : R256. -/
  | rrc_E
  /-- RRC H : R256. -/
  | rrc_H
  /-- RRC L : R256. -/
  | rrc_L
  /-- RRC (HL) : R256. -/
  | rrc_mHL
  /-- RRC A : R256. -/
  | rrc_A
  /-- RL B : R257. -/
  | rl_B
  /-- RL C : R257. -/
  | rl_C
  /-- RL D : R257. -/
  | rl_D
  /-- RL E : R257. -/
  | rl_E
  /-- RL H : R257. -/
  | rl_H
  /-- RL L : R257. -/
  | rl_L
  /-- RL (HL) : R257. -/
  | rl_mHL
  /-- RL A : R257. -/
  | rl_A
  /-- RR B : R258. -/
  | rr_B
  /-- RR C : R258. -/
  | rr_C
  /-- RR D : R258. -/
  | rr_D
  /-- RR E : R258. -/
  | rr_E
  /-- RR H : R258. -/
  | rr_H
  /-- RR L : R258. -/
  | rr_L
  /-- RR (HL) : R258. -/
  | rr_mHL
  /-- RR A : R258. -/
  | rr_A
  /-- SLA B : R259. -/
  | sla_B
  /-- SLA C : R259. -/
  | sla_C
  /-- SLA D : R259. -/
  | sla_D
  /-- SLA E : R259. -/
  | sla_E
  /-- SLA H : R259. -/
  | sla_H
  /-- SLA L : R259. -/
  | sla_L
  /-- SLA (HL) : R259. -/
  | sla_mHL
  /-- SLA A : R259. -/
  | sla_A
  /-- SRA B : R260. -/
  | sra_B
  /-- SRA C : R260. -/
  | sra_C
  /-- SRA D : R260. -/
  | sra_D
  /-- SRA E : R260. -/
  | sra_E
  /-- SRA H : R260. -/
  | sra_H
  /-- SRA L : R260. -/
  | sra_L
  /-- SRA (HL) : R260. -/
  | sra_mHL
  /-- SRA A : R260. -/
  | sra_A
  /-- SWAP B : R261. -/
  | swap_B
  /-- SWAP C : R261. -/
  | swap_C
  /-- SWAP D : R261. -/
  | swap_D
  /-- SWAP E : R261. -/
  | swap_E
  /-- SWAP H : R261. -/
  | swap_H
  /-- SWAP L : R261. -/
  | swap_L
  /-- SWAP (HL) : R261. -/
  | swap_mHL
  /-- SWAP A : R261. -/
  | swap_A
  /-- SRL B : R262. -/
  | srl_B
  /-- SRL C : R262. -/
  | srl_C
  /-- SRL D : R262. -/
  | srl_D
  /-- SRL E : R262. -/
  | srl_E
  /-- SRL H : R262. -/
  | srl_H
  /-- SRL L : R262. -/
  | srl_L
  /-- SRL (HL) : R262. -/
  | srl_mHL
  /-- SRL A : R262. -/
  | srl_A
  /-- BIT 0,B : R263. -/
  | bit_0_B
  /-- BIT 0,C : R263. -/
  | bit_0_C
  /-- BIT 0,D : R263. -/
  | bit_0_D
  /-- BIT 0,E : R263. -/
  | bit_0_E
  /-- BIT 0,H : R263. -/
  | bit_0_H
  /-- BIT 0,L : R263. -/
  | bit_0_L
  /-- BIT 0,(HL) : R263. -/
  | bit_0_mHL
  /-- BIT 0,A : R263. -/
  | bit_0_A
  /-- BIT 1,B : R263. -/
  | bit_1_B
  /-- BIT 1,C : R263. -/
  | bit_1_C
  /-- BIT 1,D : R263. -/
  | bit_1_D
  /-- BIT 1,E : R263. -/
  | bit_1_E
  /-- BIT 1,H : R263. -/
  | bit_1_H
  /-- BIT 1,L : R263. -/
  | bit_1_L
  /-- BIT 1,(HL) : R263. -/
  | bit_1_mHL
  /-- BIT 1,A : R263. -/
  | bit_1_A
  /-- BIT 2,B : R263. -/
  | bit_2_B
  /-- BIT 2,C : R263. -/
  | bit_2_C
  /-- BIT 2,D : R263. -/
  | bit_2_D
  /-- BIT 2,E : R263. -/
  | bit_2_E
  /-- BIT 2,H : R263. -/
  | bit_2_H
  /-- BIT 2,L : R263. -/
  | bit_2_L
  /-- BIT 2,(HL) : R263. -/
  | bit_2_mHL
  /-- BIT 2,A : R263. -/
  | bit_2_A
  /-- BIT 3,B : R263. -/
  | bit_3_B
  /-- BIT 3,C : R263. -/
  | bit_3_C
  /-- BIT 3,D : R263. -/
  | bit_3_D
  /-- BIT 3,E : R263. -/
  | bit_3_E
  /-- BIT 3,H : R263. -/
  | bit_3_H
  /-- BIT 3,L : R263. -/
  | bit_3_L
  /-- BIT 3,(HL) : R263. -/
  | bit_3_mHL
  /-- BIT 3,A : R263. -/
  | bit_3_A
  /-- BIT 4,B : R263. -/
  | bit_4_B
  /-- BIT 4,C : R263. -/
  | bit_4_C
  /-- BIT 4,D : R263. -/
  | bit_4_D
  /-- BIT 4,E : R263. -/
  | bit_4_E
  /-- BIT 4,H : R263. -/
  | bit_4_H
  /-- BIT 4,L : R263. -/
  | bit_4_L
  /-- BIT 4,(HL) : R263. -/
  | bit_4_mHL
  /-- BIT 4,A : R263. -/
  | bit_4_A
  /-- BIT 5,B : R263. -/
  | bit_5_B
  /-- BIT 5,C : R263. -/
  | bit_5_C
  /-- BIT 5,D : R263. -/
  | bit_5_D
  /-- BIT 5,E : R263. -/
  | bit_5_E
  /-- BIT 5,H : R263. -/
  | bit_5_H
  /-- BIT 5,L : R263. -/
  | bit_5_L
  /-- BIT 5,(HL) : R263. -/
  | bit_5_mHL
  /-- BIT 5,A : R263. -/
  | bit_5_A
  /-- BIT 6,B : R263. -/
  | bit_6_B
  /-- BIT 6,C : R263. -/
  | bit_6_C
  /-- BIT 6,D : R263. -/
  | bit_6_D
  /-- BIT 6,E : R263. -/
  | bit_6_E
  /-- BIT 6,H : R263. -/
  | bit_6_H
  /-- BIT 6,L : R263. -/
  | bit_6_L
  /-- BIT 6,(HL) : R263. -/
  | bit_6_mHL
  /-- BIT 6,A : R263. -/
  | bit_6_A
  /-- BIT 7,B : R263. -/
  | bit_7_B
  /-- BIT 7,C : R263. -/
  | bit_7_C
  /-- BIT 7,D : R263. -/
  | bit_7_D
  /-- BIT 7,E : R263. -/
  | bit_7_E
  /-- BIT 7,H : R263. -/
  | bit_7_H
  /-- BIT 7,L : R263. -/
  | bit_7_L
  /-- BIT 7,(HL) : R263. -/
  | bit_7_mHL
  /-- BIT 7,A : R263. -/
  | bit_7_A
  /-- RES 0,B : R264. -/
  | res_0_B
  /-- RES 0,C : R264. -/
  | res_0_C
  /-- RES 0,D : R264. -/
  | res_0_D
  /-- RES 0,E : R264. -/
  | res_0_E
  /-- RES 0,H : R264. -/
  | res_0_H
  /-- RES 0,L : R264. -/
  | res_0_L
  /-- RES 0,(HL) : R264. -/
  | res_0_mHL
  /-- RES 0,A : R264. -/
  | res_0_A
  /-- RES 1,B : R264. -/
  | res_1_B
  /-- RES 1,C : R264. -/
  | res_1_C
  /-- RES 1,D : R264. -/
  | res_1_D
  /-- RES 1,E : R264. -/
  | res_1_E
  /-- RES 1,H : R264. -/
  | res_1_H
  /-- RES 1,L : R264. -/
  | res_1_L
  /-- RES 1,(HL) : R264. -/
  | res_1_mHL
  /-- RES 1,A : R264. -/
  | res_1_A
  /-- RES 2,B : R264. -/
  | res_2_B
  /-- RES 2,C : R264. -/
  | res_2_C
  /-- RES 2,D : R264. -/
  | res_2_D
  /-- RES 2,E : R264. -/
  | res_2_E
  /-- RES 2,H : R264. -/
  | res_2_H
  /-- RES 2,L : R264. -/
  | res_2_L
  /-- RES 2,(HL) : R264. -/
  | res_2_mHL
  /-- RES 2,A : R264. -/
  | res_2_A
  /-- RES 3,B : R264. -/
  | res_3_B
  /-- RES 3,C : R264. -/
  | res_3_C
  /-- RES 3,D : R264. -/
  | res_3_D
  /-- RES 3,E : R264. -/
  | res_3_E
  /-- RES 3,H : R264. -/
  | res_3_H
  /-- RES 3,L : R264. -/
  | res_3_L
  /-- RES 3,(HL) : R264. -/
  | res_3_mHL
  /-- RES 3,A : R264. -/
  | res_3_A
  /-- RES 4,B : R264. -/
  | res_4_B
  /-- RES 4,C : R264. -/
  | res_4_C
  /-- RES 4,D : R264. -/
  | res_4_D
  /-- RES 4,E : R264. -/
  | res_4_E
  /-- RES 4,H : R264. -/
  | res_4_H
  /-- RES 4,L : R264. -/
  | res_4_L
  /-- RES 4,(HL) : R264. -/
  | res_4_mHL
  /-- RES 4,A : R264. -/
  | res_4_A
  /-- RES 5,B : R264. -/
  | res_5_B
  /-- RES 5,C : R264. -/
  | res_5_C
  /-- RES 5,D : R264. -/
  | res_5_D
  /-- RES 5,E : R264. -/
  | res_5_E
  /-- RES 5,H : R264. -/
  | res_5_H
  /-- RES 5,L : R264. -/
  | res_5_L
  /-- RES 5,(HL) : R264. -/
  | res_5_mHL
  /-- RES 5,A : R264. -/
  | res_5_A
  /-- RES 6,B : R264. -/
  | res_6_B
  /-- RES 6,C : R264. -/
  | res_6_C
  /-- RES 6,D : R264. -/
  | res_6_D
  /-- RES 6,E : R264. -/
  | res_6_E
  /-- RES 6,H : R264. -/
  | res_6_H
  /-- RES 6,L : R264. -/
  | res_6_L
  /-- RES 6,(HL) : R264. -/
  | res_6_mHL
  /-- RES 6,A : R264. -/
  | res_6_A
  /-- RES 7,B : R264. -/
  | res_7_B
  /-- RES 7,C : R264. -/
  | res_7_C
  /-- RES 7,D : R264. -/
  | res_7_D
  /-- RES 7,E : R264. -/
  | res_7_E
  /-- RES 7,H : R264. -/
  | res_7_H
  /-- RES 7,L : R264. -/
  | res_7_L
  /-- RES 7,(HL) : R264. -/
  | res_7_mHL
  /-- RES 7,A : R264. -/
  | res_7_A
  /-- SET 0,B : R265. -/
  | set_0_B
  /-- SET 0,C : R265. -/
  | set_0_C
  /-- SET 0,D : R265. -/
  | set_0_D
  /-- SET 0,E : R265. -/
  | set_0_E
  /-- SET 0,H : R265. -/
  | set_0_H
  /-- SET 0,L : R265. -/
  | set_0_L
  /-- SET 0,(HL) : R265. -/
  | set_0_mHL
  /-- SET 0,A : R265. -/
  | set_0_A
  /-- SET 1,B : R265. -/
  | set_1_B
  /-- SET 1,C : R265. -/
  | set_1_C
  /-- SET 1,D : R265. -/
  | set_1_D
  /-- SET 1,E : R265. -/
  | set_1_E
  /-- SET 1,H : R265. -/
  | set_1_H
  /-- SET 1,L : R265. -/
  | set_1_L
  /-- SET 1,(HL) : R265. -/
  | set_1_mHL
  /-- SET 1,A : R265. -/
  | set_1_A
  /-- SET 2,B : R265. -/
  | set_2_B
  /-- SET 2,C : R265. -/
  | set_2_C
  /-- SET 2,D : R265. -/
  | set_2_D
  /-- SET 2,E : R265. -/
  | set_2_E
  /-- SET 2,H : R265. -/
  | set_2_H
  /-- SET 2,L : R265. -/
  | set_2_L
  /-- SET 2,(HL) : R265. -/
  | set_2_mHL
  /-- SET 2,A : R265. -/
  | set_2_A
  /-- SET 3,B : R265. -/
  | set_3_B
  /-- SET 3,C : R265. -/
  | set_3_C
  /-- SET 3,D : R265. -/
  | set_3_D
  /-- SET 3,E : R265. -/
  | set_3_E
  /-- SET 3,H : R265. -/
  | set_3_H
  /-- SET 3,L : R265. -/
  | set_3_L
  /-- SET 3,(HL) : R265. -/
  | set_3_mHL
  /-- SET 3,A : R265. -/
  | set_3_A
  /-- SET 4,B : R265. -/
  | set_4_B
  /-- SET 4,C : R265. -/
  | set_4_C
  /-- SET 4,D : R265. -/
  | set_4_D
  /-- SET 4,E : R265. -/
  | set_4_E
  /-- SET 4,H : R265. -/
  | set_4_H
  /-- SET 4,L : R265. -/
  | set_4_L
  /-- SET 4,(HL) : R265. -/
  | set_4_mHL
  /-- SET 4,A : R265. -/
  | set_4_A
  /-- SET 5,B : R265. -/
  | set_5_B
  /-- SET 5,C : R265. -/
  | set_5_C
  /-- SET 5,D : R265. -/
  | set_5_D
  /-- SET 5,E : R265. -/
  | set_5_E
  /-- SET 5,H : R265. -/
  | set_5_H
  /-- SET 5,L : R265. -/
  | set_5_L
  /-- SET 5,(HL) : R265. -/
  | set_5_mHL
  /-- SET 5,A : R265. -/
  | set_5_A
  /-- SET 6,B : R265. -/
  | set_6_B
  /-- SET 6,C : R265. -/
  | set_6_C
  /-- SET 6,D : R265. -/
  | set_6_D
  /-- SET 6,E : R265. -/
  | set_6_E
  /-- SET 6,H : R265. -/
  | set_6_H
  /-- SET 6,L : R265. -/
  | set_6_L
  /-- SET 6,(HL) : R265. -/
  | set_6_mHL
  /-- SET 6,A : R265. -/
  | set_6_A
  /-- SET 7,B : R265. -/
  | set_7_B
  /-- SET 7,C : R265. -/
  | set_7_C
  /-- SET 7,D : R265. -/
  | set_7_D
  /-- SET 7,E : R265. -/
  | set_7_E
  /-- SET 7,H : R265. -/
  | set_7_H
  /-- SET 7,L : R265. -/
  | set_7_L
  /-- SET 7,(HL) : R265. -/
  | set_7_mHL
  /-- SET 7,A : R265. -/
  | set_7_A
deriving DecidableEq, Repr

end Sys2Proof
end

