-- ==== Sys2Proof/WellFormed.lean ====
section
/-! DEFINITION. The terms of `Instr` that are instructions. Every immediate has its width by its type, so the one check is
that the prefix byte is not an instruction of its own (46_cpu_misc.md R306; log 8). -/

namespace Sys2Proof

/-- `i` is the instruction some bytes decode to: every constructor but the prefix row (R306). The eleven illegal
opcodes are decoded too: executing one is what raises `Fatal` (R305). -/
def Instr.wellFormed (i : Instr) : Bool :=
  match i with
  | .prefix_CB _ => false
  | _ => true

end Sys2Proof
end

