-- ==== Sys2Proof/Decode.lean ====
section
/-! DEFINITION. The decoder (30_encoding.md R120, R130 to R133), total on any bytes, the encoder written from the same
tables, and the form of every instruction (R131, R132). -/

namespace Sys2Proof

/-- The entry of a 16 by 16 opcode map: row `op[7:4]`, column `op[3:0]` (R131). -/
def entry {α : Type} (m : Vector (Vector α 16) 16) (op : Byte) : α :=
  (m[op.toNat / 16]'(by have := op.isLt; omega))[op.toNat % 16]'(by omega)

/-- Row 0x00 to 0x0F of the CB table (R132). -/
def cbRow0 : Vector Instr 16 :=
  #v[.rlc_B, .rlc_C, .rlc_D, .rlc_E, .rlc_H, .rlc_L, .rlc_mHL, .rlc_A, .rrc_B, .rrc_C, .rrc_D, .rrc_E, .rrc_H, .rrc_L, .rrc_mHL, .rrc_A]

/-- Row 0x10 to 0x1F of the CB table (R132). -/
def cbRow1 : Vector Instr 16 :=
  #v[.rl_B, .rl_C, .rl_D, .rl_E, .rl_H, .rl_L, .rl_mHL, .rl_A, .rr_B, .rr_C, .rr_D, .rr_E, .rr_H, .rr_L, .rr_mHL, .rr_A]

/-- Row 0x20 to 0x2F of the CB table (R132). -/
def cbRow2 : Vector Instr 16 :=
  #v[.sla_B, .sla_C, .sla_D, .sla_E, .sla_H, .sla_L, .sla_mHL, .sla_A, .sra_B, .sra_C, .sra_D, .sra_E, .sra_H, .sra_L, .sra_mHL, .sra_A]

/-- Row 0x30 to 0x3F of the CB table (R132). -/
def cbRow3 : Vector Instr 16 :=
  #v[.swap_B, .swap_C, .swap_D, .swap_E, .swap_H, .swap_L, .swap_mHL, .swap_A, .srl_B, .srl_C, .srl_D, .srl_E, .srl_H, .srl_L, .srl_mHL, .srl_A]

/-- Row 0x40 to 0x4F of the CB table (R132). -/
def cbRow4 : Vector Instr 16 :=
  #v[.bit_0_B, .bit_0_C, .bit_0_D, .bit_0_E, .bit_0_H, .bit_0_L, .bit_0_mHL, .bit_0_A, .bit_1_B, .bit_1_C, .bit_1_D, .bit_1_E, .bit_1_H, .bit_1_L, .bit_1_mHL, .bit_1_A]

/-- Row 0x50 to 0x5F of the CB table (R132). -/
def cbRow5 : Vector Instr 16 :=
  #v[.bit_2_B, .bit_2_C, .bit_2_D, .bit_2_E, .bit_2_H, .bit_2_L, .bit_2_mHL, .bit_2_A, .bit_3_B, .bit_3_C, .bit_3_D, .bit_3_E, .bit_3_H, .bit_3_L, .bit_3_mHL, .bit_3_A]

/-- Row 0x60 to 0x6F of the CB table (R132). -/
def cbRow6 : Vector Instr 16 :=
  #v[.bit_4_B, .bit_4_C, .bit_4_D, .bit_4_E, .bit_4_H, .bit_4_L, .bit_4_mHL, .bit_4_A, .bit_5_B, .bit_5_C, .bit_5_D, .bit_5_E, .bit_5_H, .bit_5_L, .bit_5_mHL, .bit_5_A]

/-- Row 0x70 to 0x7F of the CB table (R132). -/
def cbRow7 : Vector Instr 16 :=
  #v[.bit_6_B, .bit_6_C, .bit_6_D, .bit_6_E, .bit_6_H, .bit_6_L, .bit_6_mHL, .bit_6_A, .bit_7_B, .bit_7_C, .bit_7_D, .bit_7_E, .bit_7_H, .bit_7_L, .bit_7_mHL, .bit_7_A]

/-- Row 0x80 to 0x8F of the CB table (R132). -/
def cbRow8 : Vector Instr 16 :=
  #v[.res_0_B, .res_0_C, .res_0_D, .res_0_E, .res_0_H, .res_0_L, .res_0_mHL, .res_0_A, .res_1_B, .res_1_C, .res_1_D, .res_1_E, .res_1_H, .res_1_L, .res_1_mHL, .res_1_A]

/-- Row 0x90 to 0x9F of the CB table (R132). -/
def cbRow9 : Vector Instr 16 :=
  #v[.res_2_B, .res_2_C, .res_2_D, .res_2_E, .res_2_H, .res_2_L, .res_2_mHL, .res_2_A, .res_3_B, .res_3_C, .res_3_D, .res_3_E, .res_3_H, .res_3_L, .res_3_mHL, .res_3_A]

/-- Row 0xA0 to 0xAF of the CB table (R132). -/
def cbRowA : Vector Instr 16 :=
  #v[.res_4_B, .res_4_C, .res_4_D, .res_4_E, .res_4_H, .res_4_L, .res_4_mHL, .res_4_A, .res_5_B, .res_5_C, .res_5_D, .res_5_E, .res_5_H, .res_5_L, .res_5_mHL, .res_5_A]

/-- Row 0xB0 to 0xBF of the CB table (R132). -/
def cbRowB : Vector Instr 16 :=
  #v[.res_6_B, .res_6_C, .res_6_D, .res_6_E, .res_6_H, .res_6_L, .res_6_mHL, .res_6_A, .res_7_B, .res_7_C, .res_7_D, .res_7_E, .res_7_H, .res_7_L, .res_7_mHL, .res_7_A]

/-- Row 0xC0 to 0xCF of the CB table (R132). -/
def cbRowC : Vector Instr 16 :=
  #v[.set_0_B, .set_0_C, .set_0_D, .set_0_E, .set_0_H, .set_0_L, .set_0_mHL, .set_0_A, .set_1_B, .set_1_C, .set_1_D, .set_1_E, .set_1_H, .set_1_L, .set_1_mHL, .set_1_A]

/-- Row 0xD0 to 0xDF of the CB table (R132). -/
def cbRowD : Vector Instr 16 :=
  #v[.set_2_B, .set_2_C, .set_2_D, .set_2_E, .set_2_H, .set_2_L, .set_2_mHL, .set_2_A, .set_3_B, .set_3_C, .set_3_D, .set_3_E, .set_3_H, .set_3_L, .set_3_mHL, .set_3_A]

/-- Row 0xE0 to 0xEF of the CB table (R132). -/
def cbRowE : Vector Instr 16 :=
  #v[.set_4_B, .set_4_C, .set_4_D, .set_4_E, .set_4_H, .set_4_L, .set_4_mHL, .set_4_A, .set_5_B, .set_5_C, .set_5_D, .set_5_E, .set_5_H, .set_5_L, .set_5_mHL, .set_5_A]

/-- Row 0xF0 to 0xFF of the CB table (R132). -/
def cbRowF : Vector Instr 16 :=
  #v[.set_6_B, .set_6_C, .set_6_D, .set_6_E, .set_6_H, .set_6_L, .set_6_mHL, .set_6_A, .set_7_B, .set_7_C, .set_7_D, .set_7_E, .set_7_H, .set_7_L, .set_7_mHL, .set_7_A]

/-- `CBMAP` (R132). -/
def cbMap : Vector (Vector Instr 16) 16 :=
  #v[cbRow0, cbRow1, cbRow2, cbRow3, cbRow4, cbRow5, cbRow6, cbRow7, cbRow8, cbRow9, cbRowA, cbRowB, cbRowC, cbRowD, cbRowE, cbRowF]

/-- The instruction of the CB table's row `op2` (R130). -/
def cbRow (op2 : Byte) : Instr := entry cbMap op2

/-- Row 0x00 to 0x0F of the base table, as functions of the two bytes after the opcode (R131, R129). -/
def baseRow0 : Vector (Byte → Byte → Instr) 16 :=
  #v[fun _ _ => .nop,
   fun b1 b2 => .ld_BC_nn (Machine.pair b2 b1),
   fun _ _ => .ld_mBC_A,
   fun _ _ => .inc_BC,
   fun _ _ => .inc_B,
   fun _ _ => .dec_B,
   fun b1 _ => .ld_B_n b1,
   fun _ _ => .rlca,
   fun b1 b2 => .ld_mnn_SP (Machine.pair b2 b1),
   fun _ _ => .add_HL_BC,
   fun _ _ => .ld_A_mBC,
   fun _ _ => .dec_BC,
   fun _ _ => .inc_C,
   fun _ _ => .dec_C,
   fun b1 _ => .ld_C_n b1,
   fun _ _ => .rrca]

/-- Row 0x10 to 0x1F of the base table, as functions of the two bytes after the opcode (R131, R129). -/
def baseRow1 : Vector (Byte → Byte → Instr) 16 :=
  #v[fun b1 _ => .stop b1,
   fun b1 b2 => .ld_DE_nn (Machine.pair b2 b1),
   fun _ _ => .ld_mDE_A,
   fun _ _ => .inc_DE,
   fun _ _ => .inc_D,
   fun _ _ => .dec_D,
   fun b1 _ => .ld_D_n b1,
   fun _ _ => .rla,
   fun b1 _ => .jr_e b1,
   fun _ _ => .add_HL_DE,
   fun _ _ => .ld_A_mDE,
   fun _ _ => .dec_DE,
   fun _ _ => .inc_E,
   fun _ _ => .dec_E,
   fun b1 _ => .ld_E_n b1,
   fun _ _ => .rra]

/-- Row 0x20 to 0x2F of the base table, as functions of the two bytes after the opcode (R131, R129). -/
def baseRow2 : Vector (Byte → Byte → Instr) 16 :=
  #v[fun b1 _ => .jr_NZ_e b1,
   fun b1 b2 => .ld_HL_nn (Machine.pair b2 b1),
   fun _ _ => .ld_mHLinc_A,
   fun _ _ => .inc_HL,
   fun _ _ => .inc_H,
   fun _ _ => .dec_H,
   fun b1 _ => .ld_H_n b1,
   fun _ _ => .daa,
   fun b1 _ => .jr_Z_e b1,
   fun _ _ => .add_HL_HL,
   fun _ _ => .ld_A_mHLinc,
   fun _ _ => .dec_HL,
   fun _ _ => .inc_L,
   fun _ _ => .dec_L,
   fun b1 _ => .ld_L_n b1,
   fun _ _ => .cpl]

/-- Row 0x30 to 0x3F of the base table, as functions of the two bytes after the opcode (R131, R129). -/
def baseRow3 : Vector (Byte → Byte → Instr) 16 :=
  #v[fun b1 _ => .jr_NC_e b1,
   fun b1 b2 => .ld_SP_nn (Machine.pair b2 b1),
   fun _ _ => .ld_mHLdec_A,
   fun _ _ => .inc_SP,
   fun _ _ => .inc_mHL,
   fun _ _ => .dec_mHL,
   fun b1 _ => .ld_mHL_n b1,
   fun _ _ => .scf,
   fun b1 _ => .jr_C_e b1,
   fun _ _ => .add_HL_SP,
   fun _ _ => .ld_A_mHLdec,
   fun _ _ => .dec_SP,
   fun _ _ => .inc_A,
   fun _ _ => .dec_A,
   fun b1 _ => .ld_A_n b1,
   fun _ _ => .ccf]

/-- Row 0x40 to 0x4F of the base table, as functions of the two bytes after the opcode (R131, R129). -/
def baseRow4 : Vector (Byte → Byte → Instr) 16 :=
  #v[fun _ _ => .ld_B_B,
   fun _ _ => .ld_B_C,
   fun _ _ => .ld_B_D,
   fun _ _ => .ld_B_E,
   fun _ _ => .ld_B_H,
   fun _ _ => .ld_B_L,
   fun _ _ => .ld_B_mHL,
   fun _ _ => .ld_B_A,
   fun _ _ => .ld_C_B,
   fun _ _ => .ld_C_C,
   fun _ _ => .ld_C_D,
   fun _ _ => .ld_C_E,
   fun _ _ => .ld_C_H,
   fun _ _ => .ld_C_L,
   fun _ _ => .ld_C_mHL,
   fun _ _ => .ld_C_A]

/-- Row 0x50 to 0x5F of the base table, as functions of the two bytes after the opcode (R131, R129). -/
def baseRow5 : Vector (Byte → Byte → Instr) 16 :=
  #v[fun _ _ => .ld_D_B,
   fun _ _ => .ld_D_C,
   fun _ _ => .ld_D_D,
   fun _ _ => .ld_D_E,
   fun _ _ => .ld_D_H,
   fun _ _ => .ld_D_L,
   fun _ _ => .ld_D_mHL,
   fun _ _ => .ld_D_A,
   fun _ _ => .ld_E_B,
   fun _ _ => .ld_E_C,
   fun _ _ => .ld_E_D,
   fun _ _ => .ld_E_E,
   fun _ _ => .ld_E_H,
   fun _ _ => .ld_E_L,
   fun _ _ => .ld_E_mHL,
   fun _ _ => .ld_E_A]

/-- Row 0x60 to 0x6F of the base table, as functions of the two bytes after the opcode (R131, R129). -/
def baseRow6 : Vector (Byte → Byte → Instr) 16 :=
  #v[fun _ _ => .ld_H_B,
   fun _ _ => .ld_H_C,
   fun _ _ => .ld_H_D,
   fun _ _ => .ld_H_E,
   fun _ _ => .ld_H_H,
   fun _ _ => .ld_H_L,
   fun _ _ => .ld_H_mHL,
   fun _ _ => .ld_H_A,
   fun _ _ => .ld_L_B,
   fun _ _ => .ld_L_C,
   fun _ _ => .ld_L_D,
   fun _ _ => .ld_L_E,
   fun _ _ => .ld_L_H,
   fun _ _ => .ld_L_L,
   fun _ _ => .ld_L_mHL,
   fun _ _ => .ld_L_A]

/-- Row 0x70 to 0x7F of the base table, as functions of the two bytes after the opcode (R131, R129). -/
def baseRow7 : Vector (Byte → Byte → Instr) 16 :=
  #v[fun _ _ => .ld_mHL_B,
   fun _ _ => .ld_mHL_C,
   fun _ _ => .ld_mHL_D,
   fun _ _ => .ld_mHL_E,
   fun _ _ => .ld_mHL_H,
   fun _ _ => .ld_mHL_L,
   fun _ _ => .halt,
   fun _ _ => .ld_mHL_A,
   fun _ _ => .ld_A_B,
   fun _ _ => .ld_A_C,
   fun _ _ => .ld_A_D,
   fun _ _ => .ld_A_E,
   fun _ _ => .ld_A_H,
   fun _ _ => .ld_A_L,
   fun _ _ => .ld_A_mHL,
   fun _ _ => .ld_A_A]

/-- Row 0x80 to 0x8F of the base table, as functions of the two bytes after the opcode (R131, R129). -/
def baseRow8 : Vector (Byte → Byte → Instr) 16 :=
  #v[fun _ _ => .add_A_B,
   fun _ _ => .add_A_C,
   fun _ _ => .add_A_D,
   fun _ _ => .add_A_E,
   fun _ _ => .add_A_H,
   fun _ _ => .add_A_L,
   fun _ _ => .add_A_mHL,
   fun _ _ => .add_A_A,
   fun _ _ => .adc_A_B,
   fun _ _ => .adc_A_C,
   fun _ _ => .adc_A_D,
   fun _ _ => .adc_A_E,
   fun _ _ => .adc_A_H,
   fun _ _ => .adc_A_L,
   fun _ _ => .adc_A_mHL,
   fun _ _ => .adc_A_A]

/-- Row 0x90 to 0x9F of the base table, as functions of the two bytes after the opcode (R131, R129). -/
def baseRow9 : Vector (Byte → Byte → Instr) 16 :=
  #v[fun _ _ => .sub_B,
   fun _ _ => .sub_C,
   fun _ _ => .sub_D,
   fun _ _ => .sub_E,
   fun _ _ => .sub_H,
   fun _ _ => .sub_L,
   fun _ _ => .sub_mHL,
   fun _ _ => .sub_A,
   fun _ _ => .sbc_A_B,
   fun _ _ => .sbc_A_C,
   fun _ _ => .sbc_A_D,
   fun _ _ => .sbc_A_E,
   fun _ _ => .sbc_A_H,
   fun _ _ => .sbc_A_L,
   fun _ _ => .sbc_A_mHL,
   fun _ _ => .sbc_A_A]

/-- Row 0xA0 to 0xAF of the base table, as functions of the two bytes after the opcode (R131, R129). -/
def baseRowA : Vector (Byte → Byte → Instr) 16 :=
  #v[fun _ _ => .and_B,
   fun _ _ => .and_C,
   fun _ _ => .and_D,
   fun _ _ => .and_E,
   fun _ _ => .and_H,
   fun _ _ => .and_L,
   fun _ _ => .and_mHL,
   fun _ _ => .and_A,
   fun _ _ => .xor_B,
   fun _ _ => .xor_C,
   fun _ _ => .xor_D,
   fun _ _ => .xor_E,
   fun _ _ => .xor_H,
   fun _ _ => .xor_L,
   fun _ _ => .xor_mHL,
   fun _ _ => .xor_A]

/-- Row 0xB0 to 0xBF of the base table, as functions of the two bytes after the opcode (R131, R129). -/
def baseRowB : Vector (Byte → Byte → Instr) 16 :=
  #v[fun _ _ => .or_B,
   fun _ _ => .or_C,
   fun _ _ => .or_D,
   fun _ _ => .or_E,
   fun _ _ => .or_H,
   fun _ _ => .or_L,
   fun _ _ => .or_mHL,
   fun _ _ => .or_A,
   fun _ _ => .cp_B,
   fun _ _ => .cp_C,
   fun _ _ => .cp_D,
   fun _ _ => .cp_E,
   fun _ _ => .cp_H,
   fun _ _ => .cp_L,
   fun _ _ => .cp_mHL,
   fun _ _ => .cp_A]

/-- Row 0xC0 to 0xCF of the base table, as functions of the two bytes after the opcode (R131, R129). -/
def baseRowC : Vector (Byte → Byte → Instr) 16 :=
  #v[fun _ _ => .ret_NZ,
   fun _ _ => .pop_BC,
   fun b1 b2 => .jp_NZ_nn (Machine.pair b2 b1),
   fun b1 b2 => .jp_nn (Machine.pair b2 b1),
   fun b1 b2 => .call_NZ_nn (Machine.pair b2 b1),
   fun _ _ => .push_BC,
   fun b1 _ => .add_A_n b1,
   fun _ _ => .rst_00,
   fun _ _ => .ret_Z,
   fun _ _ => .ret,
   fun b1 b2 => .jp_Z_nn (Machine.pair b2 b1),
   fun b1 _ => cbRow b1,
   fun b1 b2 => .call_Z_nn (Machine.pair b2 b1),
   fun b1 b2 => .call_nn (Machine.pair b2 b1),
   fun b1 _ => .adc_A_n b1,
   fun _ _ => .rst_08]

/-- Row 0xD0 to 0xDF of the base table, as functions of the two bytes after the opcode (R131, R129). -/
def baseRowD : Vector (Byte → Byte → Instr) 16 :=
  #v[fun _ _ => .ret_NC,
   fun _ _ => .pop_DE,
   fun b1 b2 => .jp_NC_nn (Machine.pair b2 b1),
   fun _ _ => .illegal_D3,
   fun b1 b2 => .call_NC_nn (Machine.pair b2 b1),
   fun _ _ => .push_DE,
   fun b1 _ => .sub_n b1,
   fun _ _ => .rst_10,
   fun _ _ => .ret_C,
   fun _ _ => .reti,
   fun b1 b2 => .jp_C_nn (Machine.pair b2 b1),
   fun _ _ => .illegal_DB,
   fun b1 b2 => .call_C_nn (Machine.pair b2 b1),
   fun _ _ => .illegal_DD,
   fun b1 _ => .sbc_A_n b1,
   fun _ _ => .rst_18]

/-- Row 0xE0 to 0xEF of the base table, as functions of the two bytes after the opcode (R131, R129). -/
def baseRowE : Vector (Byte → Byte → Instr) 16 :=
  #v[fun b1 _ => .ldh_mn_A b1,
   fun _ _ => .pop_HL,
   fun _ _ => .ld_mC_A,
   fun _ _ => .illegal_E3,
   fun _ _ => .illegal_E4,
   fun _ _ => .push_HL,
   fun b1 _ => .and_n b1,
   fun _ _ => .rst_20,
   fun b1 _ => .add_SP_e b1,
   fun _ _ => .jp_HL,
   fun b1 b2 => .ld_mnn_A (Machine.pair b2 b1),
   fun _ _ => .illegal_EB,
   fun _ _ => .illegal_EC,
   fun _ _ => .illegal_ED,
   fun b1 _ => .xor_n b1,
   fun _ _ => .rst_28]

/-- Row 0xF0 to 0xFF of the base table, as functions of the two bytes after the opcode (R131, R129). -/
def baseRowF : Vector (Byte → Byte → Instr) 16 :=
  #v[fun b1 _ => .ldh_A_mn b1,
   fun _ _ => .pop_AF,
   fun _ _ => .ld_A_mC,
   fun _ _ => .di,
   fun _ _ => .illegal_F4,
   fun _ _ => .push_AF,
   fun b1 _ => .or_n b1,
   fun _ _ => .rst_30,
   fun b1 _ => .ld_HL_SPe b1,
   fun _ _ => .ld_SP_HL,
   fun b1 b2 => .ld_A_mnn (Machine.pair b2 b1),
   fun _ _ => .ei,
   fun _ _ => .illegal_FC,
   fun _ _ => .illegal_FD,
   fun b1 _ => .cp_n b1,
   fun _ _ => .rst_38]

/-- `MAP` (R131). -/
def baseMap : Vector (Vector (Byte → Byte → Instr) 16) 16 :=
  #v[baseRow0, baseRow1, baseRow2, baseRow3, baseRow4, baseRow5, baseRow6, baseRow7, baseRow8, baseRow9, baseRowA, baseRowB, baseRowC, baseRowD, baseRowE, baseRowF]

/-- The instruction whose bytes are `b0`, `b1`, `b2`; bytes beyond its length play no part (R130). -/
def decode3 (b0 b1 b2 : Byte) : Instr := entry baseMap b0 b1 b2

/-- `LEN` (R135). -/
def lenRow0 : Vector Nat 16 := #v[1, 3, 1, 1, 1, 1, 2, 1, 3, 1, 1, 1, 1, 1, 2, 1]
def lenRow1 : Vector Nat 16 := #v[2, 3, 1, 1, 1, 1, 2, 1, 2, 1, 1, 1, 1, 1, 2, 1]
def lenRow2 : Vector Nat 16 := #v[2, 3, 1, 1, 1, 1, 2, 1, 2, 1, 1, 1, 1, 1, 2, 1]
def lenRow3 : Vector Nat 16 := #v[2, 3, 1, 1, 1, 1, 2, 1, 2, 1, 1, 1, 1, 1, 2, 1]
def lenRow4 : Vector Nat 16 := #v[1, 1, 1, 1, 1, 1, 1, 1, 1, 1, 1, 1, 1, 1, 1, 1]
def lenRow5 : Vector Nat 16 := #v[1, 1, 1, 1, 1, 1, 1, 1, 1, 1, 1, 1, 1, 1, 1, 1]
def lenRow6 : Vector Nat 16 := #v[1, 1, 1, 1, 1, 1, 1, 1, 1, 1, 1, 1, 1, 1, 1, 1]
def lenRow7 : Vector Nat 16 := #v[1, 1, 1, 1, 1, 1, 1, 1, 1, 1, 1, 1, 1, 1, 1, 1]
def lenRow8 : Vector Nat 16 := #v[1, 1, 1, 1, 1, 1, 1, 1, 1, 1, 1, 1, 1, 1, 1, 1]
def lenRow9 : Vector Nat 16 := #v[1, 1, 1, 1, 1, 1, 1, 1, 1, 1, 1, 1, 1, 1, 1, 1]
def lenRowA : Vector Nat 16 := #v[1, 1, 1, 1, 1, 1, 1, 1, 1, 1, 1, 1, 1, 1, 1, 1]
def lenRowB : Vector Nat 16 := #v[1, 1, 1, 1, 1, 1, 1, 1, 1, 1, 1, 1, 1, 1, 1, 1]
def lenRowC : Vector Nat 16 := #v[1, 1, 3, 3, 3, 1, 2, 1, 1, 1, 3, 2, 3, 3, 2, 1]
def lenRowD : Vector Nat 16 := #v[1, 1, 3, 1, 3, 1, 2, 1, 1, 1, 3, 1, 3, 1, 2, 1]
def lenRowE : Vector Nat 16 := #v[2, 1, 1, 1, 1, 1, 2, 1, 2, 1, 3, 1, 1, 1, 2, 1]
def lenRowF : Vector Nat 16 := #v[2, 1, 1, 1, 1, 1, 2, 1, 2, 1, 3, 1, 1, 1, 2, 1]

/-- `LEN` as one table (R135). -/
def lenMap : Vector (Vector Nat 16) 16 :=
  #v[lenRow0, lenRow1, lenRow2, lenRow3, lenRow4, lenRow5, lenRow6, lenRow7, lenRow8, lenRow9, lenRowA, lenRowB, lenRowC, lenRowD, lenRowE, lenRowF]

/-- How many bytes the instruction with opcode `b0` has (R120, R130, R135). -/
def opLength (b0 : Byte) : Nat := entry lenMap b0

/-- How many of them a step reads: the operand bytes are read where the rule reaches them (R492), and `STOP` raises its
`Fatal` without its second byte (R302; log 10). -/
def fetchLength (b0 : Byte) : Nat := if b0 = 0x10 then 1 else opLength b0

/-- Why a list of bytes is no instruction: it ends too early. Every opcode value has a row (R130, R138). -/
inductive DecodeError where
  /-- There is no byte at all. -/
  | noBytes
  /-- The operand bytes of `op` are missing. -/
  | missingOperand (op : Byte)
deriving DecidableEq, Repr

/-- Decode the first instruction of a list of bytes; the rest of the list is returned. -/
def decode (bytes : List Byte) : Except DecodeError (Instr × List Byte) :=
  match bytes with
  | [] => .error .noBytes
  | b0 :: rest =>
    match opLength b0, rest with
    | 1, _ => .ok (decode3 b0 0 0, rest)
    | 2, b1 :: rest2 => .ok (decode3 b0 b1 0, rest2)
    | 3, b1 :: b2 :: rest3 => .ok (decode3 b0 b1 b2, rest3)
    | _, _ => .error (.missingOperand b0)

/-- The three bytes at the lowest addresses of an instruction whose bits are `w`, numbered as opcode_table.json numbers
them, the bits above `nbits` zero. A 16-bit row whose high byte is 0xCB is written in reading order, byte 0 first
(R138); otherwise byte 0 is the low byte (log 9). -/
def tableBytes (nbits w : Nat) : Byte × Byte × Byte :=
  let v := w % 2 ^ nbits
  if nbits = 16 ∧ v / 256 = 0xCB then (0xCB, BitVec.ofNat 8 v, 0)
  else (BitVec.ofNat 8 v, BitVec.ofNat 8 (v / 256), BitVec.ofNat 8 (v / 65536))

/-- What the decoder reads from a row's bits (log 9). -/
def decodeTableWord (nbits w : Nat) : Option Instr :=
  let b := tableBytes nbits w
  match decode [b.1, b.2.1, b.2.2] with
  | .ok (i, _) => some i
  | .error _ => none

/-- The bytes of an instruction, the first at the lowest address (R121, R129, R131, R132). -/
def encode (i : Instr) : List Byte :=
  match i with
  | .nop => [0x00]
  | .ld_BC_nn nn => [0x01, Machine.lo nn, Machine.hi nn]
  | .ld_mBC_A => [0x02]
  | .inc_BC => [0x03]
  | .inc_B => [0x04]
  | .dec_B => [0x05]
  | .ld_B_n n => [0x06, n]
  | .rlca => [0x07]
  | .ld_mnn_SP nn => [0x08, Machine.lo nn, Machine.hi nn]
  | .add_HL_BC => [0x09]
  | .ld_A_mBC => [0x0A]
  | .dec_BC => [0x0B]
  | .inc_C => [0x0C]
  | .dec_C => [0x0D]
  | .ld_C_n n => [0x0E, n]
  | .rrca => [0x0F]
  | .stop skipped => [0x10, skipped]
  | .ld_DE_nn nn => [0x11, Machine.lo nn, Machine.hi nn]
  | .ld_mDE_A => [0x12]
  | .inc_DE => [0x13]
  | .inc_D => [0x14]
  | .dec_D => [0x15]
  | .ld_D_n n => [0x16, n]
  | .rla => [0x17]
  | .jr_e e => [0x18, e]
  | .add_HL_DE => [0x19]
  | .ld_A_mDE => [0x1A]
  | .dec_DE => [0x1B]
  | .inc_E => [0x1C]
  | .dec_E => [0x1D]
  | .ld_E_n n => [0x1E, n]
  | .rra => [0x1F]
  | .jr_NZ_e e => [0x20, e]
  | .ld_HL_nn nn => [0x21, Machine.lo nn, Machine.hi nn]
  | .ld_mHLinc_A => [0x22]
  | .inc_HL => [0x23]
  | .inc_H => [0x24]
  | .dec_H => [0x25]
  | .ld_H_n n => [0x26, n]
  | .daa => [0x27]
  | .jr_Z_e e => [0x28, e]
  | .add_HL_HL => [0x29]
  | .ld_A_mHLinc => [0x2A]
  | .dec_HL => [0x2B]
  | .inc_L => [0x2C]
  | .dec_L => [0x2D]
  | .ld_L_n n => [0x2E, n]
  | .cpl => [0x2F]
  | .jr_NC_e e => [0x30, e]
  | .ld_SP_nn nn => [0x31, Machine.lo nn, Machine.hi nn]
  | .ld_mHLdec_A => [0x32]
  | .inc_SP => [0x33]
  | .inc_mHL => [0x34]
  | .dec_mHL => [0x35]
  | .ld_mHL_n n => [0x36, n]
  | .scf => [0x37]
  | .jr_C_e e => [0x38, e]
  | .add_HL_SP => [0x39]
  | .ld_A_mHLdec => [0x3A]
  | .dec_SP => [0x3B]
  | .inc_A => [0x3C]
  | .dec_A => [0x3D]
  | .ld_A_n n => [0x3E, n]
  | .ccf => [0x3F]
  | .ld_B_B => [0x40]
  | .ld_B_C => [0x41]
  | .ld_B_D => [0x42]
  | .ld_B_E => [0x43]
  | .ld_B_H => [0x44]
  | .ld_B_L => [0x45]
  | .ld_B_mHL => [0x46]
  | .ld_B_A => [0x47]
  | .ld_C_B => [0x48]
  | .ld_C_C => [0x49]
  | .ld_C_D => [0x4A]
  | .ld_C_E => [0x4B]
  | .ld_C_H => [0x4C]
  | .ld_C_L => [0x4D]
  | .ld_C_mHL => [0x4E]
  | .ld_C_A => [0x4F]
  | .ld_D_B => [0x50]
  | .ld_D_C => [0x51]
  | .ld_D_D => [0x52]
  | .ld_D_E => [0x53]
  | .ld_D_H => [0x54]
  | .ld_D_L => [0x55]
  | .ld_D_mHL => [0x56]
  | .ld_D_A => [0x57]
  | .ld_E_B => [0x58]
  | .ld_E_C => [0x59]
  | .ld_E_D => [0x5A]
  | .ld_E_E => [0x5B]
  | .ld_E_H => [0x5C]
  | .ld_E_L => [0x5D]
  | .ld_E_mHL => [0x5E]
  | .ld_E_A => [0x5F]
  | .ld_H_B => [0x60]
  | .ld_H_C => [0x61]
  | .ld_H_D => [0x62]
  | .ld_H_E => [0x63]
  | .ld_H_H => [0x64]
  | .ld_H_L => [0x65]
  | .ld_H_mHL => [0x66]
  | .ld_H_A => [0x67]
  | .ld_L_B => [0x68]
  | .ld_L_C => [0x69]
  | .ld_L_D => [0x6A]
  | .ld_L_E => [0x6B]
  | .ld_L_H => [0x6C]
  | .ld_L_L => [0x6D]
  | .ld_L_mHL => [0x6E]
  | .ld_L_A => [0x6F]
  | .ld_mHL_B => [0x70]
  | .ld_mHL_C => [0x71]
  | .ld_mHL_D => [0x72]
  | .ld_mHL_E => [0x73]
  | .ld_mHL_H => [0x74]
  | .ld_mHL_L => [0x75]
  | .halt => [0x76]
  | .ld_mHL_A => [0x77]
  | .ld_A_B => [0x78]
  | .ld_A_C => [0x79]
  | .ld_A_D => [0x7A]
  | .ld_A_E => [0x7B]
  | .ld_A_H => [0x7C]
  | .ld_A_L => [0x7D]
  | .ld_A_mHL => [0x7E]
  | .ld_A_A => [0x7F]
  | .add_A_B => [0x80]
  | .add_A_C => [0x81]
  | .add_A_D => [0x82]
  | .add_A_E => [0x83]
  | .add_A_H => [0x84]
  | .add_A_L => [0x85]
  | .add_A_mHL => [0x86]
  | .add_A_A => [0x87]
  | .adc_A_B => [0x88]
  | .adc_A_C => [0x89]
  | .adc_A_D => [0x8A]
  | .adc_A_E => [0x8B]
  | .adc_A_H => [0x8C]
  | .adc_A_L => [0x8D]
  | .adc_A_mHL => [0x8E]
  | .adc_A_A => [0x8F]
  | .sub_B => [0x90]
  | .sub_C => [0x91]
  | .sub_D => [0x92]
  | .sub_E => [0x93]
  | .sub_H => [0x94]
  | .sub_L => [0x95]
  | .sub_mHL => [0x96]
  | .sub_A => [0x97]
  | .sbc_A_B => [0x98]
  | .sbc_A_C => [0x99]
  | .sbc_A_D => [0x9A]
  | .sbc_A_E => [0x9B]
  | .sbc_A_H => [0x9C]
  | .sbc_A_L => [0x9D]
  | .sbc_A_mHL => [0x9E]
  | .sbc_A_A => [0x9F]
  | .and_B => [0xA0]
  | .and_C => [0xA1]
  | .and_D => [0xA2]
  | .and_E => [0xA3]
  | .and_H => [0xA4]
  | .and_L => [0xA5]
  | .and_mHL => [0xA6]
  | .and_A => [0xA7]
  | .xor_B => [0xA8]
  | .xor_C => [0xA9]
  | .xor_D => [0xAA]
  | .xor_E => [0xAB]
  | .xor_H => [0xAC]
  | .xor_L => [0xAD]
  | .xor_mHL => [0xAE]
  | .xor_A => [0xAF]
  | .or_B => [0xB0]
  | .or_C => [0xB1]
  | .or_D => [0xB2]
  | .or_E => [0xB3]
  | .or_H => [0xB4]
  | .or_L => [0xB5]
  | .or_mHL => [0xB6]
  | .or_A => [0xB7]
  | .cp_B => [0xB8]
  | .cp_C => [0xB9]
  | .cp_D => [0xBA]
  | .cp_E => [0xBB]
  | .cp_H => [0xBC]
  | .cp_L => [0xBD]
  | .cp_mHL => [0xBE]
  | .cp_A => [0xBF]
  | .ret_NZ => [0xC0]
  | .pop_BC => [0xC1]
  | .jp_NZ_nn nn => [0xC2, Machine.lo nn, Machine.hi nn]
  | .jp_nn nn => [0xC3, Machine.lo nn, Machine.hi nn]
  | .call_NZ_nn nn => [0xC4, Machine.lo nn, Machine.hi nn]
  | .push_BC => [0xC5]
  | .add_A_n n => [0xC6, n]
  | .rst_00 => [0xC7]
  | .ret_Z => [0xC8]
  | .ret => [0xC9]
  | .jp_Z_nn nn => [0xCA, Machine.lo nn, Machine.hi nn]
  | .prefix_CB op2 => [0xCB, op2]
  | .call_Z_nn nn => [0xCC, Machine.lo nn, Machine.hi nn]
  | .call_nn nn => [0xCD, Machine.lo nn, Machine.hi nn]
  | .adc_A_n n => [0xCE, n]
  | .rst_08 => [0xCF]
  | .ret_NC => [0xD0]
  | .pop_DE => [0xD1]
  | .jp_NC_nn nn => [0xD2, Machine.lo nn, Machine.hi nn]
  | .illegal_D3 => [0xD3]
  | .call_NC_nn nn => [0xD4, Machine.lo nn, Machine.hi nn]
  | .push_DE => [0xD5]
  | .sub_n n => [0xD6, n]
  | .rst_10 => [0xD7]
  | .ret_C => [0xD8]
  | .reti => [0xD9]
  | .jp_C_nn nn => [0xDA, Machine.lo nn, Machine.hi nn]
  | .illegal_DB => [0xDB]
  | .call_C_nn nn => [0xDC, Machine.lo nn, Machine.hi nn]
  | .illegal_DD => [0xDD]
  | .sbc_A_n n => [0xDE, n]
  | .rst_18 => [0xDF]
  | .ldh_mn_A n => [0xE0, n]
  | .pop_HL => [0xE1]
  | .ld_mC_A => [0xE2]
  | .illegal_E3 => [0xE3]
  | .illegal_E4 => [0xE4]
  | .push_HL => [0xE5]
  | .and_n n => [0xE6, n]
  | .rst_20 => [0xE7]
  | .add_SP_e e => [0xE8, e]
  | .jp_HL => [0xE9]
  | .ld_mnn_A nn => [0xEA, Machine.lo nn, Machine.hi nn]
  | .illegal_EB => [0xEB]
  | .illegal_EC => [0xEC]
  | .illegal_ED => [0xED]
  | .xor_n n => [0xEE, n]
  | .rst_28 => [0xEF]
  | .ldh_A_mn n => [0xF0, n]
  | .pop_AF => [0xF1]
  | .ld_A_mC => [0xF2]
  | .di => [0xF3]
  | .illegal_F4 => [0xF4]
  | .push_AF => [0xF5]
  | .or_n n => [0xF6, n]
  | .rst_30 => [0xF7]
  | .ld_HL_SPe e => [0xF8, e]
  | .ld_SP_HL => [0xF9]
  | .ld_A_mnn nn => [0xFA, Machine.lo nn, Machine.hi nn]
  | .ei => [0xFB]
  | .illegal_FC => [0xFC]
  | .illegal_FD => [0xFD]
  | .cp_n n => [0xFE, n]
  | .rst_38 => [0xFF]
  | .rlc_B => [0xCB, 0x00]
  | .rlc_C => [0xCB, 0x01]
  | .rlc_D => [0xCB, 0x02]
  | .rlc_E => [0xCB, 0x03]
  | .rlc_H => [0xCB, 0x04]
  | .rlc_L => [0xCB, 0x05]
  | .rlc_mHL => [0xCB, 0x06]
  | .rlc_A => [0xCB, 0x07]
  | .rrc_B => [0xCB, 0x08]
  | .rrc_C => [0xCB, 0x09]
  | .rrc_D => [0xCB, 0x0A]
  | .rrc_E => [0xCB, 0x0B]
  | .rrc_H => [0xCB, 0x0C]
  | .rrc_L => [0xCB, 0x0D]
  | .rrc_mHL => [0xCB, 0x0E]
  | .rrc_A => [0xCB, 0x0F]
  | .rl_B => [0xCB, 0x10]
  | .rl_C => [0xCB, 0x11]
  | .rl_D => [0xCB, 0x12]
  | .rl_E => [0xCB, 0x13]
  | .rl_H => [0xCB, 0x14]
  | .rl_L => [0xCB, 0x15]
  | .rl_mHL => [0xCB, 0x16]
  | .rl_A => [0xCB, 0x17]
  | .rr_B => [0xCB, 0x18]
  | .rr_C => [0xCB, 0x19]
  | .rr_D => [0xCB, 0x1A]
  | .rr_E => [0xCB, 0x1B]
  | .rr_H => [0xCB, 0x1C]
  | .rr_L => [0xCB, 0x1D]
  | .rr_mHL => [0xCB, 0x1E]
  | .rr_A => [0xCB, 0x1F]
  | .sla_B => [0xCB, 0x20]
  | .sla_C => [0xCB, 0x21]
  | .sla_D => [0xCB, 0x22]
  | .sla_E => [0xCB, 0x23]
  | .sla_H => [0xCB, 0x24]
  | .sla_L => [0xCB, 0x25]
  | .sla_mHL => [0xCB, 0x26]
  | .sla_A => [0xCB, 0x27]
  | .sra_B => [0xCB, 0x28]
  | .sra_C => [0xCB, 0x29]
  | .sra_D => [0xCB, 0x2A]
  | .sra_E => [0xCB, 0x2B]
  | .sra_H => [0xCB, 0x2C]
  | .sra_L => [0xCB, 0x2D]
  | .sra_mHL => [0xCB, 0x2E]
  | .sra_A => [0xCB, 0x2F]
  | .swap_B => [0xCB, 0x30]
  | .swap_C => [0xCB, 0x31]
  | .swap_D => [0xCB, 0x32]
  | .swap_E => [0xCB, 0x33]
  | .swap_H => [0xCB, 0x34]
  | .swap_L => [0xCB, 0x35]
  | .swap_mHL => [0xCB, 0x36]
  | .swap_A => [0xCB, 0x37]
  | .srl_B => [0xCB, 0x38]
  | .srl_C => [0xCB, 0x39]
  | .srl_D => [0xCB, 0x3A]
  | .srl_E => [0xCB, 0x3B]
  | .srl_H => [0xCB, 0x3C]
  | .srl_L => [0xCB, 0x3D]
  | .srl_mHL => [0xCB, 0x3E]
  | .srl_A => [0xCB, 0x3F]
  | .bit_0_B => [0xCB, 0x40]
  | .bit_0_C => [0xCB, 0x41]
  | .bit_0_D => [0xCB, 0x42]
  | .bit_0_E => [0xCB, 0x43]
  | .bit_0_H => [0xCB, 0x44]
  | .bit_0_L => [0xCB, 0x45]
  | .bit_0_mHL => [0xCB, 0x46]
  | .bit_0_A => [0xCB, 0x47]
  | .bit_1_B => [0xCB, 0x48]
  | .bit_1_C => [0xCB, 0x49]
  | .bit_1_D => [0xCB, 0x4A]
  | .bit_1_E => [0xCB, 0x4B]
  | .bit_1_H => [0xCB, 0x4C]
  | .bit_1_L => [0xCB, 0x4D]
  | .bit_1_mHL => [0xCB, 0x4E]
  | .bit_1_A => [0xCB, 0x4F]
  | .bit_2_B => [0xCB, 0x50]
  | .bit_2_C => [0xCB, 0x51]
  | .bit_2_D => [0xCB, 0x52]
  | .bit_2_E => [0xCB, 0x53]
  | .bit_2_H => [0xCB, 0x54]
  | .bit_2_L => [0xCB, 0x55]
  | .bit_2_mHL => [0xCB, 0x56]
  | .bit_2_A => [0xCB, 0x57]
  | .bit_3_B => [0xCB, 0x58]
  | .bit_3_C => [0xCB, 0x59]
  | .bit_3_D => [0xCB, 0x5A]
  | .bit_3_E => [0xCB, 0x5B]
  | .bit_3_H => [0xCB, 0x5C]
  | .bit_3_L => [0xCB, 0x5D]
  | .bit_3_mHL => [0xCB, 0x5E]
  | .bit_3_A => [0xCB, 0x5F]
  | .bit_4_B => [0xCB, 0x60]
  | .bit_4_C => [0xCB, 0x61]
  | .bit_4_D => [0xCB, 0x62]
  | .bit_4_E => [0xCB, 0x63]
  | .bit_4_H => [0xCB, 0x64]
  | .bit_4_L => [0xCB, 0x65]
  | .bit_4_mHL => [0xCB, 0x66]
  | .bit_4_A => [0xCB, 0x67]
  | .bit_5_B => [0xCB, 0x68]
  | .bit_5_C => [0xCB, 0x69]
  | .bit_5_D => [0xCB, 0x6A]
  | .bit_5_E => [0xCB, 0x6B]
  | .bit_5_H => [0xCB, 0x6C]
  | .bit_5_L => [0xCB, 0x6D]
  | .bit_5_mHL => [0xCB, 0x6E]
  | .bit_5_A => [0xCB, 0x6F]
  | .bit_6_B => [0xCB, 0x70]
  | .bit_6_C => [0xCB, 0x71]
  | .bit_6_D => [0xCB, 0x72]
  | .bit_6_E => [0xCB, 0x73]
  | .bit_6_H => [0xCB, 0x74]
  | .bit_6_L => [0xCB, 0x75]
  | .bit_6_mHL => [0xCB, 0x76]
  | .bit_6_A => [0xCB, 0x77]
  | .bit_7_B => [0xCB, 0x78]
  | .bit_7_C => [0xCB, 0x79]
  | .bit_7_D => [0xCB, 0x7A]
  | .bit_7_E => [0xCB, 0x7B]
  | .bit_7_H => [0xCB, 0x7C]
  | .bit_7_L => [0xCB, 0x7D]
  | .bit_7_mHL => [0xCB, 0x7E]
  | .bit_7_A => [0xCB, 0x7F]
  | .res_0_B => [0xCB, 0x80]
  | .res_0_C => [0xCB, 0x81]
  | .res_0_D => [0xCB, 0x82]
  | .res_0_E => [0xCB, 0x83]
  | .res_0_H => [0xCB, 0x84]
  | .res_0_L => [0xCB, 0x85]
  | .res_0_mHL => [0xCB, 0x86]
  | .res_0_A => [0xCB, 0x87]
  | .res_1_B => [0xCB, 0x88]
  | .res_1_C => [0xCB, 0x89]
  | .res_1_D => [0xCB, 0x8A]
  | .res_1_E => [0xCB, 0x8B]
  | .res_1_H => [0xCB, 0x8C]
  | .res_1_L => [0xCB, 0x8D]
  | .res_1_mHL => [0xCB, 0x8E]
  | .res_1_A => [0xCB, 0x8F]
  | .res_2_B => [0xCB, 0x90]
  | .res_2_C => [0xCB, 0x91]
  | .res_2_D => [0xCB, 0x92]
  | .res_2_E => [0xCB, 0x93]
  | .res_2_H => [0xCB, 0x94]
  | .res_2_L => [0xCB, 0x95]
  | .res_2_mHL => [0xCB, 0x96]
  | .res_2_A => [0xCB, 0x97]
  | .res_3_B => [0xCB, 0x98]
  | .res_3_C => [0xCB, 0x99]
  | .res_3_D => [0xCB, 0x9A]
  | .res_3_E => [0xCB, 0x9B]
  | .res_3_H => [0xCB, 0x9C]
  | .res_3_L => [0xCB, 0x9D]
  | .res_3_mHL => [0xCB, 0x9E]
  | .res_3_A => [0xCB, 0x9F]
  | .res_4_B => [0xCB, 0xA0]
  | .res_4_C => [0xCB, 0xA1]
  | .res_4_D => [0xCB, 0xA2]
  | .res_4_E => [0xCB, 0xA3]
  | .res_4_H => [0xCB, 0xA4]
  | .res_4_L => [0xCB, 0xA5]
  | .res_4_mHL => [0xCB, 0xA6]
  | .res_4_A => [0xCB, 0xA7]
  | .res_5_B => [0xCB, 0xA8]
  | .res_5_C => [0xCB, 0xA9]
  | .res_5_D => [0xCB, 0xAA]
  | .res_5_E => [0xCB, 0xAB]
  | .res_5_H => [0xCB, 0xAC]
  | .res_5_L => [0xCB, 0xAD]
  | .res_5_mHL => [0xCB, 0xAE]
  | .res_5_A => [0xCB, 0xAF]
  | .res_6_B => [0xCB, 0xB0]
  | .res_6_C => [0xCB, 0xB1]
  | .res_6_D => [0xCB, 0xB2]
  | .res_6_E => [0xCB, 0xB3]
  | .res_6_H => [0xCB, 0xB4]
  | .res_6_L => [0xCB, 0xB5]
  | .res_6_mHL => [0xCB, 0xB6]
  | .res_6_A => [0xCB, 0xB7]
  | .res_7_B => [0xCB, 0xB8]
  | .res_7_C => [0xCB, 0xB9]
  | .res_7_D => [0xCB, 0xBA]
  | .res_7_E => [0xCB, 0xBB]
  | .res_7_H => [0xCB, 0xBC]
  | .res_7_L => [0xCB, 0xBD]
  | .res_7_mHL => [0xCB, 0xBE]
  | .res_7_A => [0xCB, 0xBF]
  | .set_0_B => [0xCB, 0xC0]
  | .set_0_C => [0xCB, 0xC1]
  | .set_0_D => [0xCB, 0xC2]
  | .set_0_E => [0xCB, 0xC3]
  | .set_0_H => [0xCB, 0xC4]
  | .set_0_L => [0xCB, 0xC5]
  | .set_0_mHL => [0xCB, 0xC6]
  | .set_0_A => [0xCB, 0xC7]
  | .set_1_B => [0xCB, 0xC8]
  | .set_1_C => [0xCB, 0xC9]
  | .set_1_D => [0xCB, 0xCA]
  | .set_1_E => [0xCB, 0xCB]
  | .set_1_H => [0xCB, 0xCC]
  | .set_1_L => [0xCB, 0xCD]
  | .set_1_mHL => [0xCB, 0xCE]
  | .set_1_A => [0xCB, 0xCF]
  | .set_2_B => [0xCB, 0xD0]
  | .set_2_C => [0xCB, 0xD1]
  | .set_2_D => [0xCB, 0xD2]
  | .set_2_E => [0xCB, 0xD3]
  | .set_2_H => [0xCB, 0xD4]
  | .set_2_L => [0xCB, 0xD5]
  | .set_2_mHL => [0xCB, 0xD6]
  | .set_2_A => [0xCB, 0xD7]
  | .set_3_B => [0xCB, 0xD8]
  | .set_3_C => [0xCB, 0xD9]
  | .set_3_D => [0xCB, 0xDA]
  | .set_3_E => [0xCB, 0xDB]
  | .set_3_H => [0xCB, 0xDC]
  | .set_3_L => [0xCB, 0xDD]
  | .set_3_mHL => [0xCB, 0xDE]
  | .set_3_A => [0xCB, 0xDF]
  | .set_4_B => [0xCB, 0xE0]
  | .set_4_C => [0xCB, 0xE1]
  | .set_4_D => [0xCB, 0xE2]
  | .set_4_E => [0xCB, 0xE3]
  | .set_4_H => [0xCB, 0xE4]
  | .set_4_L => [0xCB, 0xE5]
  | .set_4_mHL => [0xCB, 0xE6]
  | .set_4_A => [0xCB, 0xE7]
  | .set_5_B => [0xCB, 0xE8]
  | .set_5_C => [0xCB, 0xE9]
  | .set_5_D => [0xCB, 0xEA]
  | .set_5_E => [0xCB, 0xEB]
  | .set_5_H => [0xCB, 0xEC]
  | .set_5_L => [0xCB, 0xED]
  | .set_5_mHL => [0xCB, 0xEE]
  | .set_5_A => [0xCB, 0xEF]
  | .set_6_B => [0xCB, 0xF0]
  | .set_6_C => [0xCB, 0xF1]
  | .set_6_D => [0xCB, 0xF2]
  | .set_6_E => [0xCB, 0xF3]
  | .set_6_H => [0xCB, 0xF4]
  | .set_6_L => [0xCB, 0xF5]
  | .set_6_mHL => [0xCB, 0xF6]
  | .set_6_A => [0xCB, 0xF7]
  | .set_7_B => [0xCB, 0xF8]
  | .set_7_C => [0xCB, 0xF9]
  | .set_7_D => [0xCB, 0xFA]
  | .set_7_E => [0xCB, 0xFB]
  | .set_7_H => [0xCB, 0xFC]
  | .set_7_L => [0xCB, 0xFD]
  | .set_7_mHL => [0xCB, 0xFE]
  | .set_7_A => [0xCB, 0xFF]

/-- The form of an instruction: the operation and operands its opcode's fields select (R131, R132). The prefix row has the
form of the CB-table row its second byte selects (R130, R306). -/
def Instr.form (i : Instr) : Machine.Form :=
  match i with
  | .nop => .nop
  | .ld_BC_nn nn => .ldRRNN .bc nn
  | .ld_mBC_A => .stA .bc
  | .inc_BC => .incRR .bc
  | .inc_B => .incR .b
  | .dec_B => .decR .b
  | .ld_B_n n => .ldRN .b n
  | .rlca => .rotA .rlca
  | .ld_mnn_SP nn => .stSP nn
  | .add_HL_BC => .addHL .bc
  | .ld_A_mBC => .ldA .bc
  | .dec_BC => .decRR .bc
  | .inc_C => .incR .c
  | .dec_C => .decR .c
  | .ld_C_n n => .ldRN .c n
  | .rrca => .rotA .rrca
  | .stop skipped => .stop skipped
  | .ld_DE_nn nn => .ldRRNN .de nn
  | .ld_mDE_A => .stA .de
  | .inc_DE => .incRR .de
  | .inc_D => .incR .d
  | .dec_D => .decR .d
  | .ld_D_n n => .ldRN .d n
  | .rla => .rotA .rla
  | .jr_e e => .jr e
  | .add_HL_DE => .addHL .de
  | .ld_A_mDE => .ldA .de
  | .dec_DE => .decRR .de
  | .inc_E => .incR .e
  | .dec_E => .decR .e
  | .ld_E_n n => .ldRN .e n
  | .rra => .rotA .rra
  | .jr_NZ_e e => .jrCC .nz e
  | .ld_HL_nn nn => .ldRRNN .hl nn
  | .ld_mHLinc_A => .stA .hlInc
  | .inc_HL => .incRR .hl
  | .inc_H => .incR .h
  | .dec_H => .decR .h
  | .ld_H_n n => .ldRN .h n
  | .daa => .daa
  | .jr_Z_e e => .jrCC .z e
  | .add_HL_HL => .addHL .hl
  | .ld_A_mHLinc => .ldA .hlInc
  | .dec_HL => .decRR .hl
  | .inc_L => .incR .l
  | .dec_L => .decR .l
  | .ld_L_n n => .ldRN .l n
  | .cpl => .cpl
  | .jr_NC_e e => .jrCC .nc e
  | .ld_SP_nn nn => .ldRRNN .sp nn
  | .ld_mHLdec_A => .stA .hlDec
  | .inc_SP => .incRR .sp
  | .inc_mHL => .incM
  | .dec_mHL => .decM
  | .ld_mHL_n n => .ldMN n
  | .scf => .scf
  | .jr_C_e e => .jrCC .c e
  | .add_HL_SP => .addHL .sp
  | .ld_A_mHLdec => .ldA .hlDec
  | .dec_SP => .decRR .sp
  | .inc_A => .incR .a
  | .dec_A => .decR .a
  | .ld_A_n n => .ldRN .a n
  | .ccf => .ccf
  | .ld_B_B => .ldRR .b .b
  | .ld_B_C => .ldRR .b .c
  | .ld_B_D => .ldRR .b .d
  | .ld_B_E => .ldRR .b .e
  | .ld_B_H => .ldRR .b .h
  | .ld_B_L => .ldRR .b .l
  | .ld_B_mHL => .ldRM .b
  | .ld_B_A => .ldRR .b .a
  | .ld_C_B => .ldRR .c .b
  | .ld_C_C => .ldRR .c .c
  | .ld_C_D => .ldRR .c .d
  | .ld_C_E => .ldRR .c .e
  | .ld_C_H => .ldRR .c .h
  | .ld_C_L => .ldRR .c .l
  | .ld_C_mHL => .ldRM .c
  | .ld_C_A => .ldRR .c .a
  | .ld_D_B => .ldRR .d .b
  | .ld_D_C => .ldRR .d .c
  | .ld_D_D => .ldRR .d .d
  | .ld_D_E => .ldRR .d .e
  | .ld_D_H => .ldRR .d .h
  | .ld_D_L => .ldRR .d .l
  | .ld_D_mHL => .ldRM .d
  | .ld_D_A => .ldRR .d .a
  | .ld_E_B => .ldRR .e .b
  | .ld_E_C => .ldRR .e .c
  | .ld_E_D => .ldRR .e .d
  | .ld_E_E => .ldRR .e .e
  | .ld_E_H => .ldRR .e .h
  | .ld_E_L => .ldRR .e .l
  | .ld_E_mHL => .ldRM .e
  | .ld_E_A => .ldRR .e .a
  | .ld_H_B => .ldRR .h .b
  | .ld_H_C => .ldRR .h .c
  | .ld_H_D => .ldRR .h .d
  | .ld_H_E => .ldRR .h .e
  | .ld_H_H => .ldRR .h .h
  | .ld_H_L => .ldRR .h .l
  | .ld_H_mHL => .ldRM .h
  | .ld_H_A => .ldRR .h .a
  | .ld_L_B => .ldRR .l .b
  | .ld_L_C => .ldRR .l .c
  | .ld_L_D => .ldRR .l .d
  | .ld_L_E => .ldRR .l .e
  | .ld_L_H => .ldRR .l .h
  | .ld_L_L => .ldRR .l .l
  | .ld_L_mHL => .ldRM .l
  | .ld_L_A => .ldRR .l .a
  | .ld_mHL_B => .ldMR .b
  | .ld_mHL_C => .ldMR .c
  | .ld_mHL_D => .ldMR .d
  | .ld_mHL_E => .ldMR .e
  | .ld_mHL_H => .ldMR .h
  | .ld_mHL_L => .ldMR .l
  | .halt => .halt
  | .ld_mHL_A => .ldMR .a
  | .ld_A_B => .ldRR .a .b
  | .ld_A_C => .ldRR .a .c
  | .ld_A_D => .ldRR .a .d
  | .ld_A_E => .ldRR .a .e
  | .ld_A_H => .ldRR .a .h
  | .ld_A_L => .ldRR .a .l
  | .ld_A_mHL => .ldRM .a
  | .ld_A_A => .ldRR .a .a
  | .add_A_B => .aluR .add .b
  | .add_A_C => .aluR .add .c
  | .add_A_D => .aluR .add .d
  | .add_A_E => .aluR .add .e
  | .add_A_H => .aluR .add .h
  | .add_A_L => .aluR .add .l
  | .add_A_mHL => .aluM .add
  | .add_A_A => .aluR .add .a
  | .adc_A_B => .aluR .adc .b
  | .adc_A_C => .aluR .adc .c
  | .adc_A_D => .aluR .adc .d
  | .adc_A_E => .aluR .adc .e
  | .adc_A_H => .aluR .adc .h
  | .adc_A_L => .aluR .adc .l
  | .adc_A_mHL => .aluM .adc
  | .adc_A_A => .aluR .adc .a
  | .sub_B => .aluR .sub .b
  | .sub_C => .aluR .sub .c
  | .sub_D => .aluR .sub .d
  | .sub_E => .aluR .sub .e
  | .sub_H => .aluR .sub .h
  | .sub_L => .aluR .sub .l
  | .sub_mHL => .aluM .sub
  | .sub_A => .aluR .sub .a
  | .sbc_A_B => .aluR .sbc .b
  | .sbc_A_C => .aluR .sbc .c
  | .sbc_A_D => .aluR .sbc .d
  | .sbc_A_E => .aluR .sbc .e
  | .sbc_A_H => .aluR .sbc .h
  | .sbc_A_L => .aluR .sbc .l
  | .sbc_A_mHL => .aluM .sbc
  | .sbc_A_A => .aluR .sbc .a
  | .and_B => .aluR .and .b
  | .and_C => .aluR .and .c
  | .and_D => .aluR .and .d
  | .and_E => .aluR .and .e
  | .and_H => .aluR .and .h
  | .and_L => .aluR .and .l
  | .and_mHL => .aluM .and
  | .and_A => .aluR .and .a
  | .xor_B => .aluR .xor .b
  | .xor_C => .aluR .xor .c
  | .xor_D => .aluR .xor .d
  | .xor_E => .aluR .xor .e
  | .xor_H => .aluR .xor .h
  | .xor_L => .aluR .xor .l
  | .xor_mHL => .aluM .xor
  | .xor_A => .aluR .xor .a
  | .or_B => .aluR .or .b
  | .or_C => .aluR .or .c
  | .or_D => .aluR .or .d
  | .or_E => .aluR .or .e
  | .or_H => .aluR .or .h
  | .or_L => .aluR .or .l
  | .or_mHL => .aluM .or
  | .or_A => .aluR .or .a
  | .cp_B => .aluR .cp .b
  | .cp_C => .aluR .cp .c
  | .cp_D => .aluR .cp .d
  | .cp_E => .aluR .cp .e
  | .cp_H => .aluR .cp .h
  | .cp_L => .aluR .cp .l
  | .cp_mHL => .aluM .cp
  | .cp_A => .aluR .cp .a
  | .ret_NZ => .retCC .nz
  | .pop_BC => .pop .bc
  | .jp_NZ_nn nn => .jpCC .nz nn
  | .jp_nn nn => .jp nn
  | .call_NZ_nn nn => .callCC .nz nn
  | .push_BC => .push .bc
  | .add_A_n n => .aluN .add n
  | .rst_00 => .rst 0x00
  | .ret_Z => .retCC .z
  | .ret => .ret
  | .jp_Z_nn nn => .jpCC .z nn
  | .prefix_CB op2 => Machine.cbForm op2
  | .call_Z_nn nn => .callCC .z nn
  | .call_nn nn => .call nn
  | .adc_A_n n => .aluN .adc n
  | .rst_08 => .rst 0x08
  | .ret_NC => .retCC .nc
  | .pop_DE => .pop .de
  | .jp_NC_nn nn => .jpCC .nc nn
  | .illegal_D3 => .illegal 0xD3
  | .call_NC_nn nn => .callCC .nc nn
  | .push_DE => .push .de
  | .sub_n n => .aluN .sub n
  | .rst_10 => .rst 0x10
  | .ret_C => .retCC .c
  | .reti => .reti
  | .jp_C_nn nn => .jpCC .c nn
  | .illegal_DB => .illegal 0xDB
  | .call_C_nn nn => .callCC .c nn
  | .illegal_DD => .illegal 0xDD
  | .sbc_A_n n => .aluN .sbc n
  | .rst_18 => .rst 0x18
  | .ldh_mn_A n => .stA (.high n)
  | .pop_HL => .pop .hl
  | .ld_mC_A => .stA .highC
  | .illegal_E3 => .illegal 0xE3
  | .illegal_E4 => .illegal 0xE4
  | .push_HL => .push .hl
  | .and_n n => .aluN .and n
  | .rst_20 => .rst 0x20
  | .add_SP_e e => .addSP e
  | .jp_HL => .jpHL
  | .ld_mnn_A nn => .stA (.abs nn)
  | .illegal_EB => .illegal 0xEB
  | .illegal_EC => .illegal 0xEC
  | .illegal_ED => .illegal 0xED
  | .xor_n n => .aluN .xor n
  | .rst_28 => .rst 0x28
  | .ldh_A_mn n => .ldA (.high n)
  | .pop_AF => .pop .af
  | .ld_A_mC => .ldA .highC
  | .di => .di
  | .illegal_F4 => .illegal 0xF4
  | .push_AF => .push .af
  | .or_n n => .aluN .or n
  | .rst_30 => .rst 0x30
  | .ld_HL_SPe e => .ldHLSP e
  | .ld_SP_HL => .ldSPHL
  | .ld_A_mnn nn => .ldA (.abs nn)
  | .ei => .ei
  | .illegal_FC => .illegal 0xFC
  | .illegal_FD => .illegal 0xFD
  | .cp_n n => .aluN .cp n
  | .rst_38 => .rst 0x38
  | .rlc_B => .rotR .rlc .b
  | .rlc_C => .rotR .rlc .c
  | .rlc_D => .rotR .rlc .d
  | .rlc_E => .rotR .rlc .e
  | .rlc_H => .rotR .rlc .h
  | .rlc_L => .rotR .rlc .l
  | .rlc_mHL => .rotM .rlc
  | .rlc_A => .rotR .rlc .a
  | .rrc_B => .rotR .rrc .b
  | .rrc_C => .rotR .rrc .c
  | .rrc_D => .rotR .rrc .d
  | .rrc_E => .rotR .rrc .e
  | .rrc_H => .rotR .rrc .h
  | .rrc_L => .rotR .rrc .l
  | .rrc_mHL => .rotM .rrc
  | .rrc_A => .rotR .rrc .a
  | .rl_B => .rotR .rl .b
  | .rl_C => .rotR .rl .c
  | .rl_D => .rotR .rl .d
  | .rl_E => .rotR .rl .e
  | .rl_H => .rotR .rl .h
  | .rl_L => .rotR .rl .l
  | .rl_mHL => .rotM .rl
  | .rl_A => .rotR .rl .a
  | .rr_B => .rotR .rr .b
  | .rr_C => .rotR .rr .c
  | .rr_D => .rotR .rr .d
  | .rr_E => .rotR .rr .e
  | .rr_H => .rotR .rr .h
  | .rr_L => .rotR .rr .l
  | .rr_mHL => .rotM .rr
  | .rr_A => .rotR .rr .a
  | .sla_B => .rotR .sla .b
  | .sla_C => .rotR .sla .c
  | .sla_D => .rotR .sla .d
  | .sla_E => .rotR .sla .e
  | .sla_H => .rotR .sla .h
  | .sla_L => .rotR .sla .l
  | .sla_mHL => .rotM .sla
  | .sla_A => .rotR .sla .a
  | .sra_B => .rotR .sra .b
  | .sra_C => .rotR .sra .c
  | .sra_D => .rotR .sra .d
  | .sra_E => .rotR .sra .e
  | .sra_H => .rotR .sra .h
  | .sra_L => .rotR .sra .l
  | .sra_mHL => .rotM .sra
  | .sra_A => .rotR .sra .a
  | .swap_B => .rotR .swap .b
  | .swap_C => .rotR .swap .c
  | .swap_D => .rotR .swap .d
  | .swap_E => .rotR .swap .e
  | .swap_H => .rotR .swap .h
  | .swap_L => .rotR .swap .l
  | .swap_mHL => .rotM .swap
  | .swap_A => .rotR .swap .a
  | .srl_B => .rotR .srl .b
  | .srl_C => .rotR .srl .c
  | .srl_D => .rotR .srl .d
  | .srl_E => .rotR .srl .e
  | .srl_H => .rotR .srl .h
  | .srl_L => .rotR .srl .l
  | .srl_mHL => .rotM .srl
  | .srl_A => .rotR .srl .a
  | .bit_0_B => .bitR 0 .b
  | .bit_0_C => .bitR 0 .c
  | .bit_0_D => .bitR 0 .d
  | .bit_0_E => .bitR 0 .e
  | .bit_0_H => .bitR 0 .h
  | .bit_0_L => .bitR 0 .l
  | .bit_0_mHL => .bitM 0
  | .bit_0_A => .bitR 0 .a
  | .bit_1_B => .bitR 1 .b
  | .bit_1_C => .bitR 1 .c
  | .bit_1_D => .bitR 1 .d
  | .bit_1_E => .bitR 1 .e
  | .bit_1_H => .bitR 1 .h
  | .bit_1_L => .bitR 1 .l
  | .bit_1_mHL => .bitM 1
  | .bit_1_A => .bitR 1 .a
  | .bit_2_B => .bitR 2 .b
  | .bit_2_C => .bitR 2 .c
  | .bit_2_D => .bitR 2 .d
  | .bit_2_E => .bitR 2 .e
  | .bit_2_H => .bitR 2 .h
  | .bit_2_L => .bitR 2 .l
  | .bit_2_mHL => .bitM 2
  | .bit_2_A => .bitR 2 .a
  | .bit_3_B => .bitR 3 .b
  | .bit_3_C => .bitR 3 .c
  | .bit_3_D => .bitR 3 .d
  | .bit_3_E => .bitR 3 .e
  | .bit_3_H => .bitR 3 .h
  | .bit_3_L => .bitR 3 .l
  | .bit_3_mHL => .bitM 3
  | .bit_3_A => .bitR 3 .a
  | .bit_4_B => .bitR 4 .b
  | .bit_4_C => .bitR 4 .c
  | .bit_4_D => .bitR 4 .d
  | .bit_4_E => .bitR 4 .e
  | .bit_4_H => .bitR 4 .h
  | .bit_4_L => .bitR 4 .l
  | .bit_4_mHL => .bitM 4
  | .bit_4_A => .bitR 4 .a
  | .bit_5_B => .bitR 5 .b
  | .bit_5_C => .bitR 5 .c
  | .bit_5_D => .bitR 5 .d
  | .bit_5_E => .bitR 5 .e
  | .bit_5_H => .bitR 5 .h
  | .bit_5_L => .bitR 5 .l
  | .bit_5_mHL => .bitM 5
  | .bit_5_A => .bitR 5 .a
  | .bit_6_B => .bitR 6 .b
  | .bit_6_C => .bitR 6 .c
  | .bit_6_D => .bitR 6 .d
  | .bit_6_E => .bitR 6 .e
  | .bit_6_H => .bitR 6 .h
  | .bit_6_L => .bitR 6 .l
  | .bit_6_mHL => .bitM 6
  | .bit_6_A => .bitR 6 .a
  | .bit_7_B => .bitR 7 .b
  | .bit_7_C => .bitR 7 .c
  | .bit_7_D => .bitR 7 .d
  | .bit_7_E => .bitR 7 .e
  | .bit_7_H => .bitR 7 .h
  | .bit_7_L => .bitR 7 .l
  | .bit_7_mHL => .bitM 7
  | .bit_7_A => .bitR 7 .a
  | .res_0_B => .resR 0 .b
  | .res_0_C => .resR 0 .c
  | .res_0_D => .resR 0 .d
  | .res_0_E => .resR 0 .e
  | .res_0_H => .resR 0 .h
  | .res_0_L => .resR 0 .l
  | .res_0_mHL => .resM 0
  | .res_0_A => .resR 0 .a
  | .res_1_B => .resR 1 .b
  | .res_1_C => .resR 1 .c
  | .res_1_D => .resR 1 .d
  | .res_1_E => .resR 1 .e
  | .res_1_H => .resR 1 .h
  | .res_1_L => .resR 1 .l
  | .res_1_mHL => .resM 1
  | .res_1_A => .resR 1 .a
  | .res_2_B => .resR 2 .b
  | .res_2_C => .resR 2 .c
  | .res_2_D => .resR 2 .d
  | .res_2_E => .resR 2 .e
  | .res_2_H => .resR 2 .h
  | .res_2_L => .resR 2 .l
  | .res_2_mHL => .resM 2
  | .res_2_A => .resR 2 .a
  | .res_3_B => .resR 3 .b
  | .res_3_C => .resR 3 .c
  | .res_3_D => .resR 3 .d
  | .res_3_E => .resR 3 .e
  | .res_3_H => .resR 3 .h
  | .res_3_L => .resR 3 .l
  | .res_3_mHL => .resM 3
  | .res_3_A => .resR 3 .a
  | .res_4_B => .resR 4 .b
  | .res_4_C => .resR 4 .c
  | .res_4_D => .resR 4 .d
  | .res_4_E => .resR 4 .e
  | .res_4_H => .resR 4 .h
  | .res_4_L => .resR 4 .l
  | .res_4_mHL => .resM 4
  | .res_4_A => .resR 4 .a
  | .res_5_B => .resR 5 .b
  | .res_5_C => .resR 5 .c
  | .res_5_D => .resR 5 .d
  | .res_5_E => .resR 5 .e
  | .res_5_H => .resR 5 .h
  | .res_5_L => .resR 5 .l
  | .res_5_mHL => .resM 5
  | .res_5_A => .resR 5 .a
  | .res_6_B => .resR 6 .b
  | .res_6_C => .resR 6 .c
  | .res_6_D => .resR 6 .d
  | .res_6_E => .resR 6 .e
  | .res_6_H => .resR 6 .h
  | .res_6_L => .resR 6 .l
  | .res_6_mHL => .resM 6
  | .res_6_A => .resR 6 .a
  | .res_7_B => .resR 7 .b
  | .res_7_C => .resR 7 .c
  | .res_7_D => .resR 7 .d
  | .res_7_E => .resR 7 .e
  | .res_7_H => .resR 7 .h
  | .res_7_L => .resR 7 .l
  | .res_7_mHL => .resM 7
  | .res_7_A => .resR 7 .a
  | .set_0_B => .setR 0 .b
  | .set_0_C => .setR 0 .c
  | .set_0_D => .setR 0 .d
  | .set_0_E => .setR 0 .e
  | .set_0_H => .setR 0 .h
  | .set_0_L => .setR 0 .l
  | .set_0_mHL => .setM 0
  | .set_0_A => .setR 0 .a
  | .set_1_B => .setR 1 .b
  | .set_1_C => .setR 1 .c
  | .set_1_D => .setR 1 .d
  | .set_1_E => .setR 1 .e
  | .set_1_H => .setR 1 .h
  | .set_1_L => .setR 1 .l
  | .set_1_mHL => .setM 1
  | .set_1_A => .setR 1 .a
  | .set_2_B => .setR 2 .b
  | .set_2_C => .setR 2 .c
  | .set_2_D => .setR 2 .d
  | .set_2_E => .setR 2 .e
  | .set_2_H => .setR 2 .h
  | .set_2_L => .setR 2 .l
  | .set_2_mHL => .setM 2
  | .set_2_A => .setR 2 .a
  | .set_3_B => .setR 3 .b
  | .set_3_C => .setR 3 .c
  | .set_3_D => .setR 3 .d
  | .set_3_E => .setR 3 .e
  | .set_3_H => .setR 3 .h
  | .set_3_L => .setR 3 .l
  | .set_3_mHL => .setM 3
  | .set_3_A => .setR 3 .a
  | .set_4_B => .setR 4 .b
  | .set_4_C => .setR 4 .c
  | .set_4_D => .setR 4 .d
  | .set_4_E => .setR 4 .e
  | .set_4_H => .setR 4 .h
  | .set_4_L => .setR 4 .l
  | .set_4_mHL => .setM 4
  | .set_4_A => .setR 4 .a
  | .set_5_B => .setR 5 .b
  | .set_5_C => .setR 5 .c
  | .set_5_D => .setR 5 .d
  | .set_5_E => .setR 5 .e
  | .set_5_H => .setR 5 .h
  | .set_5_L => .setR 5 .l
  | .set_5_mHL => .setM 5
  | .set_5_A => .setR 5 .a
  | .set_6_B => .setR 6 .b
  | .set_6_C => .setR 6 .c
  | .set_6_D => .setR 6 .d
  | .set_6_E => .setR 6 .e
  | .set_6_H => .setR 6 .h
  | .set_6_L => .setR 6 .l
  | .set_6_mHL => .setM 6
  | .set_6_A => .setR 6 .a
  | .set_7_B => .setR 7 .b
  | .set_7_C => .setR 7 .c
  | .set_7_D => .setR 7 .d
  | .set_7_E => .setR 7 .e
  | .set_7_H => .setR 7 .h
  | .set_7_L => .setR 7 .l
  | .set_7_mHL => .setM 7
  | .set_7_A => .setR 7 .a

end Sys2Proof
end

