-- ==== Sys2Proof/Machine/Fetch.lean ====
section
/-! DEFINITION. Fetching an instruction through the bus (60_exceptions.md R492, 20_memory.md R104), and placing an
instruction where the next fetch reads it (log 14). -/

namespace Sys2Proof.Machine

/-- Fetch and decode the instruction at `PC`: the opcode, then the operand bytes its rule uses, in order, each an ordinary
bus read (R129, R130, R492). -/
def fetch (s : State) : Except Fault Instr :=
  let pc := s.cpu.pc
  match memRead s pc with
  | .error f => .error f
  | .ok b0 =>
    if fetchLength b0 = 1 then .ok (decode3 b0 0 0)
    else
      match memRead s (pc + 1) with
      | .error f => .error f
      | .ok b1 =>
        if fetchLength b0 = 2 then .ok (decode3 b0 b1 0)
        else
          match memRead s (pc + 2) with
          | .error f => .error f
          | .ok b2 => .ok (decode3 b0 b1 b2)

/-- Put a byte into the storage behind a bus address, without any write side effect: the ROM image of the default
cartridge or a RAM array; `none` where no storage stands (log 14). -/
def placeByte (s : State) (addr : Word) (v : Byte) : Option State :=
  match locate s addr with
  | .cartRom n =>
    match s.cart with
    | .noController rom => some { s with cart := .noController (rom.write n v) }
    | .supplied _ => none
  | .vram i => some (setVram s i v)
  | .wram i => some (setWram s i v)
  | .oam i => some (setOam s i v)
  | .hram i => some (setHram s i v)
  | .snd i => some (setSnd s i v)
  | _ => none

/-- Put three bytes at `PC`, if storage stands behind all three addresses. -/
def placeAtPc (s : State) (b : Byte × Byte × Byte) : Option State :=
  match placeByte s s.cpu.pc b.1 with
  | none => none
  | some s1 =>
    match placeByte s1 (s.cpu.pc + 1) b.2.1 with
    | none => none
    | some s2 => placeByte s2 (s.cpu.pc + 2) b.2.2

/-- The state whose next step fetches the three bytes `b`: they stand at `PC` or, where no storage stands there, in the
ROM image of a default cartridge at 0x0100 with `PC` there; nothing is left that would keep the step from fetching (a
fault, a halt, an interrupt that `interrupted` says would be serviced) (log 14). -/
def placeInstruction (s : State) (interrupted : Bool) (b : Byte × Byte × Byte) : State :=
  let s1 := { s with fault := none,
                     cpu := { s.cpu with halted := false, ime := s.cpu.ime && !interrupted } }
  match placeAtPc s1 b with
  | some t => t
  | none =>
    { s1 with cpu := { s1.cpu with pc := 0x0100 },
              cart := .noController (Memory.write (Memory.write (Memory.write [] 0x0100 b.1) 0x0101 b.2.1) 0x0102 b.2.2) }

end Sys2Proof.Machine
end

