-- ==== Sys2Proof/Machine/Render.lean ====
section
/-! DEFINITION. The line renderer (49_ppu_render.md). It reads VRAM, OAM and the palettes directly, not through the bus. -/

namespace Sys2Proof.Machine

/-- A byte of video RAM at offset `off` of bank `b` (R53). -/
def vramByte (s : State) (b off : Nat) : Byte := s.mem.vram.read (b * 0x2000 + off)

/-- `tile_ci(bank, off, c, r)` (R422). -/
def tileCi (s : State) (bank off c r : Nat) : Nat :=
  2 * (bit (vramByte s bank (off + 2 * r + 1)) (7 - c)).toNat + (bit (vramByte s bank (off + 2 * r)) (7 - c)).toNat

/-- The VRAM offset of background or window tile `t` (R423). -/
def tileOffset (lcdc : Byte) (t : Nat) : Nat :=
  if bit lcdc 4 then t * 16
  else if t ≤ 127 then 0x1000 + 16 * t
  else 0x0800 + 16 * (t - 128)

/-- `bg_map`: `0x1C00 if LCDC[3] else 0x1800` (R420). -/
def bgMap (lcdc : Byte) : Nat := if bit lcdc 3 then 0x1C00 else 0x1800

/-- `win_map`: `0x1C00 if LCDC[6] else 0x1800` (R420). -/
def winMap (lcdc : Byte) : Nat := if bit lcdc 6 then 0x1C00 else 0x1800

/-- `map_pixel(base, px, py)`: the colour index and the attribute (R425, R426). -/
def mapPixel (s : State) (base px py : Nat) : Nat × Byte :=
  let e := base + 32 * (py / 8) + px / 8
  let t := (vramByte s 0 e).toNat
  let attr : Byte := match s.launch.variant with
    | .cgb => vramByte s 1 e
    | .dmg => 0
  let c := if bit attr 5 then 7 - px % 8 else px % 8
  let r := if bit attr 6 then 7 - py % 8 else py % 8
  (tileCi s (bit attr 3).toNat (tileOffset s.ppu.lcdc t) c r, attr)

/-- `shade(P, ci)` (R445). -/
def shade (p : Byte) (ci : Nat) : Nat := p.toNat / 4 ^ ci % 4

/-- `MONO_PALETTE[i]` (R447), for `i` at most 3. -/
def monoPixel (l : Launch) (i : Nat) : Pixel :=
  match i with
  | 0 => l.monoPalette.shade0
  | 1 => l.monoPalette.shade1
  | 2 => l.monoPalette.shade2
  | _ => l.monoPalette.shade3

/-- A five-bit channel widened to eight bits: `(r5 << 3) | (r5 >> 2)` (R448). -/
def widen5 (r5 : Nat) : Nat := r5 * 8 + r5 / 4

/-- The default `rgb15_to_pixel` (R448). -/
def defaultRgb15 (c : Nat) : Pixel :=
  BitVec.ofNat 32 (0xFF000000 + widen5 (c % 32) * 0x10000 + widen5 (c / 32 % 32) * 0x100 + widen5 (c / 1024 % 32))

/-- The pixel that the first override of colour `c` gives, if there is one (log 13). -/
def findOverride : List (Nat × Pixel) → Nat → Option Pixel
  | [], _ => none
  | (k, p) :: rest, c => if k = c then some p else findOverride rest c

/-- `rgb15_to_pixel(c)` (R448, log 13). -/
def rgb15ToPixel (l : Launch) (c : Nat) : Pixel := (findOverride l.rgbOverrides c).getD (defaultRgb15 c)

/-- The 15-bit colour at byte `i` of a palette memory, low byte first (R446). -/
def palColour (m : Memory) (i : Nat) : Nat := (pair (m.read (i + 1)) (m.read i)).toNat % 0x8000

/-- `bg_colour(ci, attr)` (R445, R446). -/
def bgColour (s : State) (ci : Nat) (attr : Byte) : Pixel :=
  match s.launch.variant with
  | .dmg => monoPixel s.launch (shade s.ppu.bgp ci)
  | .cgb => rgb15ToPixel s.launch (palColour s.mem.bgPal (8 * (attr.toNat % 8) + 2 * ci))

/-- `obj_colour(ci, f)` (R445, R446). -/
def objColour (s : State) (ci : Nat) (f : Byte) : Pixel :=
  match s.launch.variant with
  | .dmg => monoPixel s.launch (shade (if bit f 4 then s.ppu.obp1 else s.ppu.obp0) ci)
  | .cgb => rgb15ToPixel s.launch (palColour s.mem.objPal (8 * (f.toNat % 8) + 2 * ci))

/-- `blank_pixel()` (R429). -/
def blankPixel (s : State) : Pixel :=
  match s.launch.variant with
  | .dmg => monoPixel s.launch 0
  | .cgb => rgb15ToPixel s.launch 0x7FFF

/-- `window_covers(x, ly)` (R430). -/
def windowCovers (s : State) (x ly : Nat) : Bool :=
  bit s.ppu.lcdc 5 && decide (s.ppu.wy.toNat ≤ ly) && decide (s.ppu.wx.toNat ≤ x + 7)

/-- Layer 1, background or window: colour index and pixel (R420, R428, R431). -/
def layer1 (s : State) (x ly : Nat) : Nat × Pixel :=
  if bit s.ppu.lcdc 0 then
    let m :=
      if windowCovers s x ly then
        mapPixel s (winMap s.ppu.lcdc) (x + 7 - s.ppu.wx.toNat) (ly - s.ppu.wy.toNat)
      else
        mapPixel s (bgMap s.ppu.lcdc) ((x + s.ppu.scx.toNat) % 256) ((ly + s.ppu.scy.toNat) % 256)
    (m.1, bgColour s m.1 m.2)
  else (0, blankPixel s)

/-- A byte of OAM (R55). -/
def oamByte (s : State) (i : Nat) : Byte := s.mem.oam.read i

/-- The sprite height: 16 if `LCDC[2]`, else 8 (R434). -/
def spriteHeight (s : State) : Nat := if bit s.ppu.lcdc 2 then 16 else 8

/-- Sprite `n` covers screen pixel (`x`, `ly`): `y - 16 <= ly < y - 16 + h` and `xs - 8 <= x < xs` on the
integers (R434). -/
def spriteCovers (s : State) (n x ly : Nat) : Bool :=
  let y := (oamByte s (4 * n)).toNat
  let xs := (oamByte s (4 * n + 1)).toNat
  decide (y ≤ ly + 16) && decide (ly + 16 < y + spriteHeight s) && decide (xs ≤ x + 8) && decide (x < xs)

/-- The sprite's tile number: the pair of tiles for 8×16 (R435). -/
def spriteTile (s : State) (n : Nat) : Nat :=
  let t := (oamByte s (4 * n + 2)).toNat
  if bit s.ppu.lcdc 2 then t / 2 * 2 else t

/-- `sprite_pixel(n, x, ly)`: the colour index where the sprite covers the pixel, `none` where it does not (R436). -/
def spritePixel (s : State) (n x ly : Nat) : Option Nat :=
  if spriteCovers s n x ly then
    let f := oamByte s (4 * n + 3)
    let r0 := ly + 16 - (oamByte s (4 * n)).toNat
    let c0 := x + 8 - (oamByte s (4 * n + 1)).toNat
    let r := if bit f 6 then spriteHeight s - 1 - r0 else r0
    let c := if bit f 5 then 7 - c0 else c0
    let bank := match s.launch.variant with
      | .cgb => (bit f 3).toNat
      | .dmg => 0
    some (tileCi s bank (16 * spriteTile s n) c r)
  else none

/-- The sprite that counts at a pixel among sprites `n`, `n + 1`, … (`k` of them): the first that covers it with a colour
index not 0 (R437), with its index and that colour index. -/
def topSprite (s : State) (x ly : Nat) : Nat → Nat → Option (Nat × Nat)
  | 0, _ => none
  | k + 1, n =>
    match spritePixel s n x ly with
    | some (ci + 1) => some (n, ci + 1)
    | _ => topSprite s x ly k (n + 1)

/-- The pixel of column `x` of line `ly` (R420). -/
def pixelAt (s : State) (x ly : Nat) : Pixel :=
  let b := layer1 s x ly
  if bit s.ppu.lcdc 1 then
    match topSprite s x ly 40 0 with
    | some (n, ci) =>
      let f := oamByte s (4 * n + 3)
      if !bit f 7 || b.1 == 0 then objColour s ci f else b.2
    | none => b.2
  else b.2

/-- The row of line `ly` (R420, R450). -/
def renderedRow (s : State) (ly : Nat) : Row := Vector.ofFn fun x : Fin 160 => pixelAt s x.val ly

/-- `render_line(ly)`: writes row `ly` of the frame buffer and no other state (R420, R421). -/
def renderLine (s : State) : State :=
  { s with ppu := { s.ppu with
      framebuffer := s.ppu.framebuffer.setIfInBounds s.ppu.ly.toNat (renderedRow s s.ppu.ly.toNat) } }

end Sys2Proof.Machine
end

