-- ==== Sys2Proof/Machine/PpuModes.lean ====
section
/-! DEFINITION. The PPU mode state machine (48_ppu_modes.md). -/

namespace Sys2Proof.Machine

/-- The current mode, `STAT[1:0]` (R380). -/
def ppuMode (s : State) : BitVec 2 := s.ppu.stat.setWidth 2

/-- Replace `STAT`. -/
def setStat (s : State) (v : Byte) : State := { s with ppu := { s.ppu with stat := v } }

/-- Replace `LY`. -/
def setLy (s : State) (v : Byte) : State := { s with ppu := { s.ppu with ly := v } }

/-- Replace `ppu_cycles`. -/
def setPpuCycles (s : State) (n : Nat) : State := { s with ppu := { s.ppu with cycles := n } }

/-- `set_mode(m)` (R396). -/
def setMode (m : Byte) (s : State) : State := setStat s ((s.ppu.stat &&& 0xFC) ||| m)

/-- `request(1)` if the select bit `STAT[i]` is set (R383 to R385). -/
def requestIfSelected (i : Nat) (s : State) : State := if bit s.ppu.stat i then request 1 s else s

/-- `compare(irq)` (R396): recompute the coincidence flag; with `irq`, request the STAT interrupt if it came out set and
`STAT[6]` is set. -/
def compareLyc (irq : Bool) (s : State) : State :=
  if s.ppu.ly = s.ppu.lyc then
    let t := setStat s (s.ppu.stat ||| 0x04)
    if irq then requestIfSelected 6 t else t
  else setStat s (s.ppu.stat &&& 0xFB)

/-- `enter_transfer()`: mode 2 to mode 3; the line is rendered if the display is on (R382). -/
def enterTransfer (s : State) : State :=
  let t := compareLyc false (setMode 3 s)
  if bit t.ppu.lcdc 7 then renderLine t else t

/-- `hblank_dma_chunk()` (R344). -/
def hblankDmaChunk (s : State) : Except Fault State :=
  match s.launch.variant with
  | .dmg => .ok s
  | .cgb =>
    if s.ppu.hdma.active then
      match copyChunk s.ppu.hdma.src s.ppu.hdma.dst s with
      | .error f => .error f
      | .ok t =>
        let d := t.ppu.hdma
        .ok (setHdma t { d with src := d.src + 16, dst := nextDst d.dst, remaining := d.remaining - 1,
                                active := !(d.remaining - 1 == 0) })
    else .ok s

/-- `enter_hblank()`: mode 3 to mode 0 (R383). -/
def enterHblank (s : State) : Except Fault State :=
  hblankDmaChunk (requestIfSelected 3 (compareLyc false (setMode 0 s)))

/-- `frames_out <- frames_out ++ [framebuffer]` (R389). -/
def deliverFrame (s : State) : State :=
  { s with ppu := { s.ppu with framesOut := s.ppu.framesOut ++ [s.ppu.framebuffer] } }

/-- `end_visible_line()`: end of mode 0 (R384). -/
def endVisibleLine (s : State) : State :=
  let t := setLy s (s.ppu.ly + 1)
  if t.ppu.ly = Config.nVisible then
    deliverFrame (requestIfSelected 4 (request 0 (compareLyc true (setMode 1 t))))
  else requestIfSelected 5 (compareLyc true (setMode 2 t))

/-- `end_vblank_line()`: in mode 1, every 456 cycles (R385). -/
def endVblankLine (s : State) : State :=
  let t := setLy s (s.ppu.ly + 1)
  if t.ppu.ly = Config.nLines then requestIfSelected 5 (compareLyc true (setMode 2 (setLy t 0)))
  else compareLyc true t

/-- The threshold of each mode (R381). -/
def modeLength (m : BitVec 2) : Nat :=
  if m = 2 then Config.tOam
  else if m = 3 then Config.tXfer
  else if m = 0 then Config.tHblank
  else Config.tLine

/-- The transition out of each mode (R381). -/
def leaveMode (m : BitVec 2) (s : State) : Except Fault State :=
  if m = 2 then .ok (enterTransfer s)
  else if m = 3 then enterHblank s
  else if m = 0 then .ok (endVisibleLine s)
  else .ok (endVblankLine s)

/-- The loop of `ppu_advance` (R381), at most `fuel` rounds. -/
def ppuLoop : Nat → State → Except Fault State
  | 0, s => .ok s
  | fuel + 1, s =>
    let m := ppuMode s
    if modeLength m ≤ s.ppu.cycles then
      match leaveMode m (setPpuCycles s (s.ppu.cycles - modeLength m)) with
      | .error f => .error f
      | .ok t => ppuLoop fuel t
    else .ok s

/-- `ppu_advance(c)` (R381). Each round takes at least 80 cycles off, so the rounds allowed are enough for the loop to
end by itself (log 17). -/
def ppuAdvance (c : Nat) (s : State) : Except Fault State :=
  let n := s.ppu.cycles + c
  ppuLoop (n / Config.tOam + 1) (setPpuCycles s n)

end Sys2Proof.Machine
end

