-- ==== Sys2Proof/Machine/Timer.lean ====
section
/-! DEFINITION. The timer (60_exceptions.md R511 to R513). -/

namespace Sys2Proof.Machine

/-- `DIV_PERIOD`: 256 cycles, 128 in double speed (R511). -/
def divPeriod (s : State) : Nat := if s.launch.doubleSpeed then 128 else 256

/-- `TIMA_PERIOD[TAC[1:0]]`, halved in double speed (R512). -/
def timaPeriod (s : State) : Nat :=
  let p := match s.timer.tac.toNat % 4 with
    | 0 => 1024
    | 1 => 16
    | 2 => 64
    | _ => 256
  if s.launch.doubleSpeed then p / 2 else p

/-- One increment of `DIV` (R511). -/
def tickDiv (s : State) : State := { s with timer := { s.timer with div := s.timer.div + 1 } }

/-- One increment of `TIMA`: on overflow, reload from `TMA` and `request(2)` (R512). -/
def tickTima (s : State) : State :=
  if s.timer.tima = 0xFF then request 2 { s with timer := { s.timer with tima := s.timer.tma } }
  else { s with timer := { s.timer with tima := s.timer.tima + 1 } }

/-- `n` rounds of a while loop's body. -/
def rounds (body : State → State) : Nat → State → State
  | 0, s => s
  | n + 1, s => rounds body n (body s)

/-- The divider (R511). The loop takes a period off the accumulator as often as it goes into it. -/
def advanceDiv (c : Nat) (s : State) : State :=
  let acc := s.timer.divAcc + c
  let t := rounds tickDiv (acc / divPeriod s) s
  { t with timer := { t.timer with divAcc := acc % divPeriod s } }

/-- The programmable counter, while its start bit is set (R512). -/
def advanceTima (c : Nat) (s : State) : State :=
  if bit s.timer.tac 2 then
    let acc := s.timer.timaAcc + c
    let t := rounds tickTima (acc / timaPeriod s) s
    { t with timer := { t.timer with timaAcc := acc % timaPeriod s } }
  else s

/-- `timer_advance(c)` (R513). -/
def timerAdvance (c : Nat) (s : State) : State := advanceTima c (advanceDiv c s)

end Sys2Proof.Machine
end

