-- ==== Sys2Proof/Machine/Driver.lean ====
section
/-! DEFINITION. The CPU step (60_exceptions.md R490 to R492) and the frame driver (R500). -/

namespace Sys2Proof.Machine

/-- `Ext.poll`: its answer is ORed into `IF` bits 3 and 4 (R488, R500). The default unit takes the next answer of its
stream and never requests once the stream is empty (log 12). -/
def pollExt (s : State) : State :=
  match s.ext with
  | .scripted [] => s
  | .scripted (m :: rest) =>
    { s with ext := .scripted rest, ifReg := s.ifReg ||| (m.setWidth 5 <<< 3) }
  | .supplied es =>
    { s with ext := .supplied (Config.extPoll es).2,
             ifReg := s.ifReg ||| ((Config.extPoll es).1.setWidth 5 <<< 3) }

/-- An interrupt is serviced by the next CPU step: `IME = 1` and `IF & IE & 0x1F != 0` (R487, R490). -/
def interruptDue (s : State) : Bool := s.cpu.ime && decide (pending s ≠ 0)

/-- Branch (2) of the CPU step: fetch, decode, execute (R492). -/
def runInstruction (s : State) : Result :=
  match fetch s with
  | .error f => raiseFatal f s
  | .ok i => exec i s

/-- `cpu_step()` (R490, R491). -/
def cpuStep (s : State) : Result :=
  if interruptDue s then takeInterrupt s
  else if s.cpu.halted then
    if pending s ≠ 0 then runInstruction { s with cpu := { s.cpu with halted := false } }
    else .next { s with cpu := { s.cpu with cycles := Config.haltedCycles } }
  else runInstruction s

/-- What the driver does after a CPU step that reached `t` from the polled state `p`: nothing if it raised a `Fatal`; else
the PPU, then the timer, advance by the cost (R500). A `Fatal` raised in `ppu_advance` leaves `p` with `fault` set
(R504, log 7). -/
def advanceUnits (p t : State) : Result :=
  match t.fault with
  | some _ => .next t
  | none =>
    match ppuAdvance t.cpu.cycles t with
    | .error f => raiseFatal f p
    | .ok u => .next (timerAdvance t.cpu.cycles u)

/-- `driver_step()` of a machine that has not faulted (R500). -/
def driverStep (s : State) : Result :=
  let p := pollExt s
  match cpuStep p with
  | .next t => advanceUnits p t
  | .fault f => .fault f
  | .refused r => .refused r

end Sys2Proof.Machine
end

