-- ==== Sys2Proof/Machine/Step.lean ====
section
/-! DEFINITION. One step of the machine is one `driver_step` (60_exceptions.md R500). -/

namespace Sys2Proof.Machine

/-- One step. A machine in the faulted state has none (R500, R505): the recorded Fatal is the outcome (log 6). -/
def step (s : State) : Host.Outcome State Fault Refusal :=
  match s.fault with
  | some f => .fault f
  | none => driverStep s

/-- `s` with an opcode-table word stored where the next step fetches its instruction (log 9, log 14). -/
def State.withFetchWord (s : State) (nbits w : Nat) : State :=
  placeInstruction s (interruptDue (pollExt s)) (tableBytes nbits w)

end Sys2Proof.Machine
end

