-- ==== Sys2Proof/Safety.lean ====
section
/-! DEFINITION. The terms that claims use: the invariant every step keeps, when a bus access completes, which cells are
plain storage, where an instruction stores, and the raster position of a machine. -/

namespace Sys2Proof.Machine

/-- A run is safe as long as no `Fatal` has been raised (R505). -/
def Safe (s : State) : Prop := s.fault = none

/-- What every operation keeps. `flagsLow` is R22, `lyRange` and `visible` are R394, `ppuBelow` is R46 and R381, `divBelow`
is R37, `chunks` and `armed` are R48, `bcpsBit` and `ocpsBit` are R49, `cartWf` and `memWf` are the canonical form of the
memory lists (log 16). -/
structure Inv (s : State) : Prop where
  flagsLow : s.cpu.f &&& 0x0F = 0
  lyRange : s.ppu.ly.toNat ≤ 153
  visible : ppuMode s ≠ 1 → s.ppu.ly.toNat ≤ 143
  ppuBelow : s.ppu.cycles < modeLength (ppuMode s)
  divBelow : s.timer.divAcc < divPeriod s
  chunks : s.ppu.hdma.remaining ≤ 128
  armed : s.ppu.hdma.active = true → 0 < s.ppu.hdma.remaining
  bcpsBit : bit s.ppu.bcps 6 = false
  ocpsBit : bit s.ppu.ocps 6 = false
  cartWf : s.cart.wf = true
  memWf : s.mem.wf s.launch.variant = true

/-- An address of the I/O window that no handler owns (R91, R92). It depends on the variant alone. -/
def isUnmapped (s : State) (a : Word) : Bool :=
  match locate s a with
  | .unmapped _ => true
  | _ => false

/-- A bus read completes (R72, R91). -/
def canRead (s : State) (a : Word) : Bool := !isUnmapped s a || decide (s.launch.unmappedPolicy = .sentinel)

/-- The bus reads of `n` bytes from `base` on complete. -/
def canReadBlock (s : State) (base : Word) (n : Nat) : Bool :=
  (List.range n).all fun i => canRead s (base + BitVec.ofNat 16 i)

/-- A bus write completes: its address has a handler, or the policy is the sentinel (R91); and a write that starts a copy
can read the copy's source (R329, R342). -/
def canWrite (s : State) (a : Word) (v : Byte) : Bool :=
  match locate s a with
  | .unmapped _ => decide (s.launch.unmappedPolicy = .sentinel)
  | .io .dma => v == 0 || canReadBlock s (pair v 0) 160
  | .io .hdma5 =>
    bit v 7 || s.ppu.hdma.active || canReadBlock s (hdmaSrc0 s.ppu.hdma) (16 * (v.toNat % 128 + 1))
  | _ => true

/-- A push of `w` completes (R186). -/
def canPush (s : State) (w : Word) : Bool := canWrite s (s.cpu.sp - 1) (hi w) && canWrite s (s.cpu.sp - 2) (lo w)

/-- A pop completes (R186). -/
def canPop (s : State) : Bool := canRead s s.cpu.sp && canRead s (s.cpu.sp + 1)

/-- The address is a cell of a RAM array (R53 to R57). -/
def isRam (s : State) (a : Word) : Bool :=
  match locate s a with
  | .vram _ => true
  | .wram _ => true
  | .oam _ => true
  | .hram _ => true
  | .snd _ => true
  | _ => false

/-- A register whose write changes what no other address reads: not the two DMA triggers, the palette ports and the bank
selects (R99, R546). -/
def localReg : IoReg → Bool
  | .dma => false
  | .hdma5 => false
  | .bcps => false
  | .bcpd => false
  | .ocps => false
  | .ocpd => false
  | .vbk => false
  | .svbk => false
  | _ => true

/-- A store to the address changes what no other location reads (R70, R99): a RAM cell, `IE`, a register of `localReg`, an
address whose writes are dropped. -/
def isLocal (s : State) (a : Word) : Bool :=
  match locate s a with
  | .cartRom _ => match s.cart with
    | .noController _ => true
    | .supplied _ => false
  | .cartRam _ => match s.cart with
    | .noController _ => true
    | .supplied _ => false
  | .ext _ => match s.ext with
    | .scripted _ => true
    | .supplied _ => false
  | .io r => localReg r
  | _ => true

/-- The address the form's one-byte store goes to, as its meaning computes it (R150, R123). -/
def storeAddr (s : State) : Form → Option Word
  | .ldMR _ => some (getHL s)
  | .ldMN _ => some (getHL s)
  | .stA m => some (modeAddr s m)
  | .incM => some (getHL s)
  | .decM => some (getHL s)
  | .rotM _ => some (getHL s)
  | .resM _ => some (getHL s)
  | .setM _ => some (getHL s)
  | _ => none

/-- The forms that store two bytes, and the address of the lower one: the stack below `SP` (R186), or `nn` (R181). A
conditional call stores only when it is taken (R287). -/
def storeAddr2 (s : State) : Form → Option Word
  | .stSP nn => some nn
  | .push _ => some (s.cpu.sp - 2)
  | .call _ => some (s.cpu.sp - 2)
  | .callCC cc _ => if condHolds s cc then some (s.cpu.sp - 2) else none
  | .rst _ => some (s.cpu.sp - 2)
  | _ => none

/-- A two-byte store of `w` at `a` completes (R94). -/
def canWrite16 (s : State) (a w : Word) : Bool := canWrite s a (lo w) && canWrite s (a + 1) (hi w)

/-- The 3-bit code of an 8-bit register (R123; 6 is the byte at `HL`). -/
def regCode : Reg8 → Byte
  | .b => 0
  | .c => 1
  | .d => 2
  | .e => 3
  | .h => 4
  | .l => 5
  | .a => 7

/-- The 2-bit code of a 16-bit register (R124). -/
def pairCode : Reg16 → Byte
  | .bc => 0
  | .de => 1
  | .hl => 2
  | .sp => 3

/-- The 2-bit code of a pair of `PUSH` and `POP` (R125). -/
def stackCode : Reg16S → Byte
  | .bc => 0
  | .de => 1
  | .hl => 2
  | .af => 3

/-- The 2-bit code of a condition (R126). -/
def condCode : Cond → Byte
  | .nz => 0
  | .z => 1
  | .nc => 2
  | .c => 3

/-- The 3-bit code of an accumulator operation (R127). -/
def aluCode : AluOp → Byte
  | .add => 0
  | .adc => 1
  | .sub => 2
  | .sbc => 3
  | .and => 4
  | .xor => 5
  | .or => 6
  | .cp => 7

/-- The 3-bit code of a rotate, shift or swap of the CB table (R128). -/
def rotCode : RotOp → Byte
  | .rlc => 0
  | .rrc => 1
  | .rl => 2
  | .rr => 3
  | .sla => 4
  | .sra => 5
  | .swap => 6
  | .srl => 7

/-- The bytes of an instruction of each form: the "Encoding" lines of files 40 to 46, a 16-bit immediate low byte first
(R129). -/
def formBytes : Form → List Byte
  | .nop => [0x00]
  | .halt => [0x76]
  | .stop skipped => [0x10, skipped]
  | .di => [0xF3]
  | .ei => [0xFB]
  | .illegal op => [op]
  | .ldRR d r => [0x40 + 8 * regCode d + regCode r]
  | .ldRN d n => [0x06 + 8 * regCode d, n]
  | .ldRM d => [0x46 + 8 * regCode d]
  | .ldMR r => [0x70 + regCode r]
  | .ldMN n => [0x36, n]
  | .ldA .bc => [0x0A]
  | .ldA .de => [0x1A]
  | .ldA .hlInc => [0x2A]
  | .ldA .hlDec => [0x3A]
  | .ldA (.abs nn) => [0xFA, lo nn, hi nn]
  | .ldA (.high n) => [0xF0, n]
  | .ldA .highC => [0xF2]
  | .stA .bc => [0x02]
  | .stA .de => [0x12]
  | .stA .hlInc => [0x22]
  | .stA .hlDec => [0x32]
  | .stA (.abs nn) => [0xEA, lo nn, hi nn]
  | .stA (.high n) => [0xE0, n]
  | .stA .highC => [0xE2]
  | .ldRRNN rr nn => [0x01 + 16 * pairCode rr, lo nn, hi nn]
  | .stSP nn => [0x08, lo nn, hi nn]
  | .ldSPHL => [0xF9]
  | .ldHLSP e => [0xF8, e]
  | .push rr => [0xC5 + 16 * stackCode rr]
  | .pop rr => [0xC1 + 16 * stackCode rr]
  | .aluR op r => [0x80 + 8 * aluCode op + regCode r]
  | .aluM op => [0x86 + 8 * aluCode op]
  | .aluN op n => [0xC6 + 8 * aluCode op, n]
  | .incR r => [0x04 + 8 * regCode r]
  | .incM => [0x34]
  | .decR r => [0x05 + 8 * regCode r]
  | .decM => [0x35]
  | .daa => [0x27]
  | .cpl => [0x2F]
  | .scf => [0x37]
  | .ccf => [0x3F]
  | .addHL rr => [0x09 + 16 * pairCode rr]
  | .incRR rr => [0x03 + 16 * pairCode rr]
  | .decRR rr => [0x0B + 16 * pairCode rr]
  | .addSP e => [0xE8, e]
  | .rotA .rlca => [0x07]
  | .rotA .rrca => [0x0F]
  | .rotA .rla => [0x17]
  | .rotA .rra => [0x1F]
  | .rotR op r => [0xCB, 8 * rotCode op + regCode r]
  | .rotM op => [0xCB, 0x06 + 8 * rotCode op]
  | .bitR b r => [0xCB, 0x40 + 8 * BitVec.ofNat 8 b + regCode r]
  | .bitM b => [0xCB, 0x46 + 8 * BitVec.ofNat 8 b]
  | .resR b r => [0xCB, 0x80 + 8 * BitVec.ofNat 8 b + regCode r]
  | .resM b => [0xCB, 0x86 + 8 * BitVec.ofNat 8 b]
  | .setR b r => [0xCB, 0xC0 + 8 * BitVec.ofNat 8 b + regCode r]
  | .setM b => [0xCB, 0xC6 + 8 * BitVec.ofNat 8 b]
  | .jp nn => [0xC3, lo nn, hi nn]
  | .jpCC cc nn => [0xC2 + 8 * condCode cc, lo nn, hi nn]
  | .jpHL => [0xE9]
  | .jr e => [0x18, e]
  | .jrCC cc e => [0x20 + 8 * condCode cc, e]
  | .call nn => [0xCD, lo nn, hi nn]
  | .callCC cc nn => [0xC4 + 8 * condCode cc, lo nn, hi nn]
  | .ret => [0xC9]
  | .retCC cc => [0xC0 + 8 * condCode cc]
  | .rst t => [0xC7 + t]
  | .reti => [0xD9]

/-- Nothing but CPU registers differs between `s` and `t`: no memory byte, no control register, no other unit. -/
def onlyCpu (s t : State) : Prop := t = { s with cpu := t.cpu }

/-- The outcome of an instruction whose one destination is the register `d`: `d` holds `v`, `F` holds `f`, `PC` has moved by
`len`, `cost` is reported, and nothing else differs. -/
def RegResult (s t : State) (d : Reg8) (v f : Byte) (len : Word) (cost : Nat) : Prop :=
  getR8 t d = v ∧ (∀ q, q ≠ d → getR8 t q = getR8 s q) ∧ t.cpu.f = f ∧ t.cpu.sp = s.cpu.sp ∧
  t.cpu.pc = s.cpu.pc + len ∧ t.cpu.cycles = cost ∧ t.cpu.ime = s.cpu.ime ∧ t.cpu.halted = s.cpu.halted ∧ onlyCpu s t

/-- The step raised the `Fatal` `f`: `fault` holds it (R505). R504 leaves the rest of the state open. -/
def Raises (r : Result) (f : Fault) : Prop := ∃ t, r = .next t ∧ t.fault = some f

/-- A rotate, shift or swap on natural numbers: the result and the carry out (R255 to R262). -/
def rotNat (op : RotOp) (v cin : Nat) : Nat × Bool :=
  match op with
  | .rlc => (v * 2 % 256 + v / 128, decide (v / 128 = 1))
  | .rrc => (v / 2 + v % 2 * 128, decide (v % 2 = 1))
  | .rl => (v * 2 % 256 + cin, decide (v / 128 = 1))
  | .rr => (v / 2 + cin * 128, decide (v % 2 = 1))
  | .sla => (v * 2 % 256, decide (v / 128 = 1))
  | .sra => (v / 2 + v / 128 * 128, decide (v % 2 = 1))
  | .swap => (v % 16 * 16 + v / 16, false)
  | .srl => (v / 2, decide (v % 2 = 1))

/-- `v` is the source operand of the accumulator instruction `i` with operation `op`, its length and cost: the three rows of
R201. -/
def AluOperand (i : Instr) (s : State) (op : AluOp) (v : Byte) (len : Word) (cost : Nat) : Prop :=
  (∃ r, i.form = .aluR op r ∧ v = getR8 s r ∧ len = 1 ∧ cost = 4) ∨
  (i.form = .aluM op ∧ memRead s (getHL s) = .ok v ∧ len = 1 ∧ cost = 8) ∨
  (i.form = .aluN op v ∧ len = 2 ∧ cost = 8)

/-- `STAT` with its mode and its coincidence flag replaced (R39, R396). -/
def statWith (stat : Byte) (mode : Byte) (coincidence : Bool) : Byte :=
  (stat &&& 0xF8) ||| (if coincidence then 0x04 else 0x00) ||| mode

/-- The requests of a PPU transition: bit 0 when `vblank`, bit 1 when `stat` (R386). -/
def ppuRequests (ifReg : BitVec 5) (vblank stat : Bool) : BitVec 5 :=
  ifReg ||| (if vblank then 1 else 0) ||| (if stat then 2 else 0)

/-- Where the raster stands `T` cycles after reset with no CPU write to `LY`: the table of R391 and its count of delivered
frames (the integers `k` with `65664 + 70224 k <= T`). -/
def RasterAt (s : State) (T : Nat) : Prop :=
  let line := T % 70224 / 456
  let o := T % 70224 % 456
  s.ppu.ly.toNat = line ∧
  (if line < 144 then
    if o < 80 then ppuMode s = 2 ∧ s.ppu.cycles = o
    else if o < 252 then ppuMode s = 3 ∧ s.ppu.cycles = o - 80
    else ppuMode s = 0 ∧ s.ppu.cycles = o - 252
  else ppuMode s = 1 ∧ s.ppu.cycles = o) ∧
  s.ppu.framesOut.length = (T + 4560) / 70224

/-- Between `s` and `t` the mode machine entered mode 1 once and delivered the frame buffer with it, or did neither (R384, R389). -/
def DeliversAtVblank (s t : State) : Prop :=
  (t.ppu.framesOut = s.ppu.framesOut ∧ ¬(ppuMode s = 0 ∧ ppuMode t = 1)) ∨
  (t.ppu.framesOut = s.ppu.framesOut ++ [s.ppu.framebuffer] ∧ t.ppu.framebuffer = s.ppu.framebuffer ∧
    ppuMode s = 0 ∧ ppuMode t = 1 ∧ s.ppu.ly = 143 ∧ t.ppu.ly = 144 ∧ t.ifReg.getLsbD 0 = true)

/-- What the line renderer reads besides the line number (R450). -/
def sameRenderInputs (s t : State) : Prop :=
  s.launch.variant = t.launch.variant ∧ s.launch.monoPalette = t.launch.monoPalette ∧
  s.launch.rgbOverrides = t.launch.rgbOverrides ∧ s.ppu.lcdc = t.ppu.lcdc ∧ s.ppu.scx = t.ppu.scx ∧
  s.ppu.scy = t.ppu.scy ∧ s.ppu.wx = t.ppu.wx ∧ s.ppu.wy = t.ppu.wy ∧ s.ppu.bgp = t.ppu.bgp ∧
  s.ppu.obp0 = t.ppu.obp0 ∧ s.ppu.obp1 = t.ppu.obp1 ∧ s.mem.vram = t.mem.vram ∧ s.mem.oam = t.mem.oam ∧
  s.mem.bgPal = t.mem.bgPal ∧ s.mem.objPal = t.mem.objPal

end Sys2Proof.Machine
end

