-- ==== Sys2Proof/Certificates/Slice0/Obligations.lean ====
section
/-! DEFINITION. The statements of this model, from the numbered rules of spec/. A clause that rests on a choice of the
model names its log entry. -/

open Sys2Proof Sys2Proof.Machine

/-! ## Encoding and decoding -/

/-- Every instruction's bytes decode to it, whatever follows them, with every operand at every value (R120, R121, R129,
R130). `STOP` has two bytes (R135), the second one any byte: that it is an operand is the model's reading of R302 (log 10). -/
def Obligations.DecodeOfEncode : Prop :=
  ∀ (i : Instr) (rest : List Byte), i.wellFormed = true → decode (encode i ++ rest) = .ok (i, rest)

/-- No two byte strings stand for one instruction, and no byte is dropped: what is decoded is well formed and is encoded
by exactly the bytes taken (R120, R130), for `STOP` its opcode and the byte it skips, whatever that is (R135, R302; the model's
reading, log 10). -/
def Obligations.EncodeOfDecode : Prop :=
  ∀ (bytes rest : List Byte) (i : Instr), decode bytes = .ok (i, rest) → i.wellFormed = true ∧ bytes = encode i ++ rest

/-- Decoding is what the field tables of R131 and R132 say, for every opcode byte and all operand bytes (`baseForm` and
`cbForm` are those tables; the opcode map of the decoder is the 16 by 16 table of R131). That the form of `STOP`
carries the byte after its opcode is the model's reading (log 10). -/
def Obligations.DecodeFollowsFieldTables : Prop :=
  ∀ op b1 b2 : Byte, (decode3 op b1 b2).form = baseForm op b1 b2

/-- The spec's own words of R131, R132 and files 40 to 46, bit by bit. -/
def Obligations.SampleWordsDecode : Prop :=
  decode [0b01000001] = .ok (.ld_B_C, []) ∧
  decode [0b00111110, 0x2A] = .ok (.ld_A_n 0x2A, []) ∧
  decode [0b00100001, 0x00, 0x98] = .ok (.ld_HL_nn 0x9800, []) ∧
  decode [0b10001011] = .ok (.adc_A_E, []) ∧
  decode [0b00001001] = .ok (.add_HL_BC, []) ∧
  decode [0b11001011, 0b01111100] = .ok (.bit_7_H, []) ∧
  decode [0b11001011, 0b10000110] = .ok (.res_0_mHL, []) ∧
  decode [0b11001011, 0b00110111] = .ok (.swap_A, []) ∧
  decode [0b11000011, 0x50, 0x01] = .ok (.jp_nn 0x0150, []) ∧
  decode [0b00100000, 0xFC] = .ok (.jr_NZ_e 0xFC, []) ∧
  decode [0b11110101] = .ok (.push_AF, []) ∧
  decode [0b11101111] = .ok (.rst_28, []) ∧
  decode [0b11111011] = .ok (.ei, []) ∧
  decode [0b11010011] = .ok (.illegal_D3, [])

/-! ## Reset, the step, interrupts, faults -/

/-- Reset leaves the values of R60, whatever the launch arguments (R541), and `State.reset` is the reset of the default
arguments. The RAM arrays and the frame buffer are the launch argument INIT_RAM (R61). -/
def Obligations.ResetValues : Prop :=
  (∀ (p : Launch) (cart : Cart) (ext : ExtUnit) (m : Mem) (fb : Frame),
    let s := State.launched p cart ext m fb
    getAF s = (if p.variant = .dmg then 0x01B0 else 0x1180) ∧
    getBC s = (if p.variant = .dmg then 0x0013 else 0x0000) ∧
    getDE s = (if p.variant = .dmg then 0x00D8 else 0xFF56) ∧
    getHL s = (if p.variant = .dmg then 0x014D else 0x000D) ∧
    s.cpu.sp = 0xFFFE ∧ s.cpu.pc = 0x0100 ∧ s.cpu.ime = false ∧ s.cpu.halted = false ∧ s.fault = none ∧
    s.ifReg = 0 ∧ s.ie = 0 ∧ s.timer.div = 0 ∧ s.timer.tima = 0 ∧ s.timer.tma = 0 ∧ s.timer.tac = 0 ∧
    s.timer.divAcc = 0 ∧ s.timer.timaAcc = 0 ∧ s.ppu.lcdc = 0x91 ∧ s.ppu.stat = 0x06 ∧ s.ppu.scy = 0 ∧
    s.ppu.scx = 0 ∧ s.ppu.ly = 0 ∧ s.ppu.lyc = 0 ∧ s.ppu.wy = 0 ∧ s.ppu.wx = 0 ∧ s.ppu.dma = 0 ∧
    s.ppu.bgp = 0xFC ∧ s.ppu.obp0 = 0xFF ∧ s.ppu.obp1 = 0xFF ∧ s.ppu.cycles = 0 ∧ s.ppu.vbk = 0 ∧ s.svbk = 0 ∧
    s.ppu.hdma.active = false ∧ s.ppu.hdma.remaining = 0 ∧ s.ppu.hdma.srcHi = 0xFF ∧ s.ppu.hdma.srcLo = 0xFF ∧
    s.ppu.hdma.dstHi = 0xFF ∧ s.ppu.hdma.dstLo = 0xFF ∧ s.ppu.bcps = 0 ∧ s.ppu.ocps = 0 ∧
    s.ppu.framesOut = [] ∧ s.mem = m ∧ s.ppu.framebuffer = fb ∧ s.launch = p ∧ s.cart = cart ∧ s.ext = ext) ∧
  State.reset = State.launched Launch.default (.noController []) (.scripted []) Mem.empty Frame.blank

/-- The reset state has the invariant. -/
def Obligations.ResetHasInvariant : Prop := Inv State.reset

/-- Every step keeps the invariant: the low nibble of `F` is zero (R22), `LY` is at most 153 and at most 143 outside
V-blank (R394), `ppu_cycles` is below the threshold of the mode (R46, R381), `div_acc` below its period (R37), the
VRAM DMA counts at most 128 chunks and at least one while armed (R48), bit 6 of the palette indices is not stored (R49),
and the memory lists are canonical (log 16). -/
def Obligations.StepKeepsInvariant : Prop :=
  ∀ s t : State, Inv s → step s = .next t → Inv t

/-- A step runs the decoded instruction. The machine has not faulted, is not halted and services no interrupt; the bytes
at `PC`, read through the bus after `Ext.poll`, decode to `i`: the step is the meaning of `i` at the polled state, then
the PPU and the timer advance by its cost (R492, R490, R500), or neither does if it raised a `Fatal`; a `Fatal` of the PPU's advance
leaves the polled state, which is the model's choice (log 7). Where a byte that the step reads cannot be read the step raises
that `Fatal`; of `STOP` it reads the opcode alone (R302, R492; the model's reading, log 10). -/
def Obligations.StepRunsDecodedInstruction : Prop :=
  ∀ s : State, s.fault = none → interruptDue (pollExt s) = false → s.cpu.halted = false →
    (∀ (bytes : List Byte) (i : Instr), decode bytes = .ok (i, []) →
      (∀ (k : Nat) (b : Byte), bytes[k]? = some b →
        memRead (pollExt s) (s.cpu.pc + BitVec.ofNat 16 k) = .ok b) →
      ∃ t, exec i (pollExt s) = .next t ∧ step s = advanceUnits (pollExt s) t) ∧
    (∀ f, memRead (pollExt s) s.cpu.pc = .error f → Raises (step s) f) ∧
    (∀ op f, memRead (pollExt s) s.cpu.pc = .ok op → 1 < fetchLength op →
      memRead (pollExt s) (s.cpu.pc + 1) = .error f → Raises (step s) f) ∧
    (∀ op b f, memRead (pollExt s) s.cpu.pc = .ok op → memRead (pollExt s) (s.cpu.pc + 1) = .ok b →
      2 < fetchLength op → memRead (pollExt s) (s.cpu.pc + 2) = .error f → Raises (step s) f) ∧
    (memRead (pollExt s) s.cpu.pc = .ok 0x10 → Raises (step s) (.unimplementedOpcode 0x10 s.cpu.pc))

/-- The round of the frame driver (R500): `Ext.poll` touches only `IF` bits 3 and 4 (and the unit's own state); after a CPU
step that raised nothing the PPU and then the timer advance by its cost; after one that raised a `Fatal` neither does; a
machine that has faulted has no step (R505, R28; that the step then answers the recorded `Fatal` is log 6). -/
def Obligations.DriverRound : Prop :=
  (∀ s : State, pollExt s = { s with ext := (pollExt s).ext, ifReg := (pollExt s).ifReg } ∧
    (∃ m : BitVec 2, (pollExt s).ifReg = s.ifReg ||| (m.setWidth 5 <<< 3)) ∧
    (s.ext = .scripted [] → pollExt s = s)) ∧
  (∀ s t u : State, s.fault = none → cpuStep (pollExt s) = .next t → t.fault = none →
    ppuAdvance t.cpu.cycles t = .ok u → step s = .next (timerAdvance t.cpu.cycles u)) ∧
  (∀ (s t : State) (f : Fault), s.fault = none → cpuStep (pollExt s) = .next t → t.fault = some f →
    step s = .next t) ∧
  (∀ (s t : State) (f : Fault), s.fault = some f → step s ≠ .next t)

/-- The halted CPU (R491): with nothing pending a step fetches nothing, changes nothing and reports 4 cycles; with an
interrupt pending and `IME = 0` the halt ends and the instruction after `HALT` runs. -/
def Obligations.HaltedCpuIdlesAndWakes : Prop :=
  ∀ s : State, s.cpu.halted = true →
    (pending s = 0 → cpuStep s = .next { s with cpu := { s.cpu with cycles := 4 } }) ∧
    (pending s ≠ 0 → s.cpu.ime = false → cpuStep s = cpuStep { s with cpu := { s.cpu with halted := false } })

/-- Interrupt entry (R490 branch (1), R493, R494): with `IME = 1` and `i` the least pending bit, halted or not, the CPU step
clears `halted`, the `IF` bit and `IME`, pushes `PC` high byte first, goes to `0x40 + 8 i` and reports `INT_SERVICE_CYCLES`
(R8, open by D7; 20 by default); no other register and no control register changes but by the two stack writes. Where a stack write raises a `Fatal`, so does the
step. -/
def Obligations.InterruptEntry : Prop :=
  ∀ (s : State) (i : Nat), s.cpu.ime = true → i < 5 → (pending s).getLsbD i = true →
    (∀ j, j < i → (pending s).getLsbD j = false) →
    let s1 := { s with ifReg := s.ifReg &&& ~~~((1 : BitVec 5) <<< i) }
    (canPush s1 s.cpu.pc = true →
      ∃ t u, memWrite s1 (s.cpu.sp - 1) (hi s.cpu.pc) = .ok t ∧ memWrite t (s.cpu.sp - 2) (lo s.cpu.pc) = .ok u ∧
        cpuStep s = .next { u with cpu := { s.cpu with
          halted := false, ime := false, sp := s.cpu.sp - 2, pc := BitVec.ofNat 16 (0x40 + 8 * i),
          cycles := s.launch.intServiceCycles } }) ∧
    (canPush s1 s.cpu.pc = false → ∃ f, Raises (cpuStep s) f)

/-- The stack image of interrupt entry and the return from it: with the stack in RAM, the low byte of the interrupted `PC`
is at the new `SP` and the high byte above it, and a `RETI` executed there goes back to that `PC` with `SP` as before and
`IME` set (R493, R497, R291). -/
def Obligations.InterruptEntryThenReti : Prop :=
  ∀ s t : State, s.mem.wf s.launch.variant = true → s.cpu.ime = true → pending s ≠ 0 →
    isRam s (s.cpu.sp - 1) = true → isRam s (s.cpu.sp - 2) = true → cpuStep s = .next t →
    t.fault = s.fault ∧ memRead t t.cpu.sp = .ok (lo s.cpu.pc) ∧ memRead t (t.cpu.sp + 1) = .ok (hi s.cpu.pc) ∧
    ∃ u, exec .reti t = .next u ∧ u.cpu.pc = s.cpu.pc ∧ u.cpu.sp = s.cpu.sp ∧ u.cpu.ime = true ∧
      u.cpu.a = s.cpu.a ∧ u.cpu.f = s.cpu.f ∧ u.ie = s.ie ∧ (∀ a, memRead u a = memRead t a)

/-- Who writes the hidden CPU bits: `IME` is changed by `EI`, `DI` and `RETI` alone (R26), and `halted` by `HALT` alone
(R27), among all instructions. -/
def Obligations.OnlyFourInstructionsWriteImeAndHalted : Prop :=
  ∀ (i : Instr) (s t : State), exec i s = .next t →
    (t.cpu.ime ≠ s.cpu.ime → i = .ei ∨ i = .di ∨ i = .reti) ∧
    (t.cpu.halted ≠ s.cpu.halted → i = .halt) ∧
    (t.fault = none → (i = .ei ∨ i = .reti → t.cpu.ime = true) ∧ (i = .di → t.cpu.ime = false) ∧
      (i = .halt → t.cpu.halted = true))

/-- The PPU and the timer change between CPU steps, never inside one (R102 (c), R380, R37): no instruction changes a PPU
mode or coincidence bit, `ppu_cycles`, the frame buffer, the frames delivered or a timer accumulator; it can only clear `LY`
(R41) and `DIV` (R33), never set them to anything else. -/
def Obligations.NoInstructionAdvancesPpuOrTimer : Prop :=
  ∀ (i : Instr) (s t : State), exec i s = .next t →
    t.ppu.stat &&& 0x07 = s.ppu.stat &&& 0x07 ∧ t.ppu.cycles = s.ppu.cycles ∧
    t.ppu.framebuffer = s.ppu.framebuffer ∧ t.ppu.framesOut = s.ppu.framesOut ∧
    t.timer.divAcc = s.timer.divAcc ∧ t.timer.timaAcc = s.timer.timaAcc ∧
    (t.ppu.ly = s.ppu.ly ∨ t.ppu.ly = 0) ∧ (t.timer.div = s.timer.div ∨ t.timer.div = 0)

/-- No step changes the launch parameters (R62, R541) or, on the default cartridge, a ROM byte (R75, R79). -/
def Obligations.LaunchAndRomNeverChange : Prop :=
  ∀ s t : State, step s = .next t → t.launch = s.launch ∧ (∀ rom, s.cart = .noController rom → t.cart = s.cart)

/-- The complete list of fatal conditions (R506): a step of a machine that has not faulted ends in a next state, and if that
state is faulted then it was an illegal opcode or `STOP`, fetched at `PC`, or, under the fatal policy only, an unmapped
address of the I/O window. -/
def Obligations.FatalConditionsAreTheListed : Prop :=
  ∀ s : State, s.fault = none →
    ∃ t, step s = .next t ∧
      ∀ f, t.fault = some f →
        (∃ op, f = .unmappedOpcode op s.cpu.pc ∧ memRead (pollExt s) s.cpu.pc = .ok op ∧
          op ∈ ([0xD3, 0xDB, 0xDD, 0xE3, 0xE4, 0xEB, 0xEC, 0xED, 0xF4, 0xFC, 0xFD] : List Byte)) ∨
        (f = .unimplementedOpcode 0x10 s.cpu.pc ∧ memRead (pollExt s) s.cpu.pc = .ok 0x10) ∨
        (∃ a w, f = .unmappedAddress a w ∧ s.launch.unmappedPolicy = .fatal ∧ isUnmapped s a = true)

/-- The cost of every CPU step that raises nothing: an interrupt service reports `INT_SERVICE_CYCLES` (R490), 20 by default and
open by decision D7; every other step, and a service at the default, a multiple of 4 from 4 to 24 (R553). -/
def Obligations.CpuStepCostIsMultipleOfFour : Prop :=
  (∀ s t : State, s.fault = none → cpuStep s = .next t → t.fault = none →
    (interruptDue s = true → t.cpu.cycles = s.launch.intServiceCycles) ∧
    (interruptDue s = false ∨ s.launch.intServiceCycles = 20 →
      4 ≤ t.cpu.cycles ∧ t.cpu.cycles ≤ 24 ∧ t.cpu.cycles % 4 = 0)) ∧
  Launch.default.intServiceCycles = 20

/-- `PC` after an instruction that transfers no control is the old `PC` plus the instruction's length, modulo 2^16 (R24); and
with its condition false a conditional transfer does the same (R280). -/
def Obligations.PcAdvancesByLength : Prop :=
  ∀ (i : Instr) (s t : State), exec i s = .next t → s.fault = none → t.fault = none →
    (match i.form with
      | .jp _ => False
      | .jpHL => False
      | .jr _ => False
      | .call _ => False
      | .ret => False
      | .rst _ => False
      | .reti => False
      | .jpCC cc _ => condHolds s cc = false
      | .jrCC cc _ => condHolds s cc = false
      | .callCC cc _ => condHolds s cc = false
      | .retCC cc => condHolds s cc = false
      | _ => True) →
    t.cpu.pc = s.cpu.pc + BitVec.ofNat 16 (encode i).length

/-- What an abandoned instruction leaves is the model's choice (log 7, the advice of R504): an instruction either raises
nothing, or changes nothing but `fault`. -/
def Obligations.AbandonedInstructionChangesOnlyFault : Prop :=
  ∀ (i : Instr) (s : State), s.fault = none →
    ∃ t, exec i s = .next t ∧ (t.fault = none ∨ t = { s with fault := t.fault })

/-! ## 8-bit loads -/

/-- `LD r,r'` (R151), `LD r,n` (R152) and `LD r,(HL)` (R153): the destination takes the source register's value, the immediate,
or the byte at the old `HL`; no flag, no other register and nothing outside the CPU changes. A bus fault on the read is the
step's. -/
def Obligations.LoadRegister : Prop :=
  ∀ (i : Instr) (s : State) (d : Reg8),
    encode i = formBytes i.form ∧
    (∀ r, i.form = .ldRR d r → ∃ t, exec i s = .next t ∧ RegResult s t d (getR8 s r) s.cpu.f 1 4) ∧
    (∀ n, i.form = .ldRN d n → ∃ t, exec i s = .next t ∧ RegResult s t d n s.cpu.f 2 8) ∧
    (i.form = .ldRM d →
      (∀ v, memRead s (getHL s) = .ok v → ∃ t, exec i s = .next t ∧ RegResult s t d v s.cpu.f 1 8) ∧
      (∀ f, memRead s (getHL s) = .error f → Raises (exec i s) f))

/-- `LD (HL),r` (R154) and `LD (HL),n` (R155): one bus write at `HL`, of the register's value before it, or the immediate;
a bus fault on the write is the step's. -/
def Obligations.StoreToHL : Prop :=
  ∀ (i : Instr) (s : State) (v : Byte) (len : Word) (cost : Nat),
    ((∃ r, i.form = .ldMR r ∧ v = getR8 s r ∧ len = 1 ∧ cost = 8) ∨ (i.form = .ldMN v ∧ len = 2 ∧ cost = 12)) →
    encode i = formBytes i.form ∧
    (canWrite s (getHL s) v = true → ∃ t, memWrite s (getHL s) v = .ok t ∧
      exec i s = .next { t with cpu := { s.cpu with pc := s.cpu.pc + len, cycles := cost } }) ∧
    (∀ f, memWrite s (getHL s) v = .error f → Raises (exec i s) f)

/-- The seven loads of `A` from memory, with their addresses, lengths, costs and what they do to `HL` (R156, R157, R160, R162,
R164, R166, R167). -/
def Obligations.LoadAccumulator : Prop :=
  ∀ (i : Instr) (s : State) (v : Byte),
    encode i = formBytes i.form ∧
    (i.form = .ldA .bc → memRead s (getBC s) = .ok v →
      exec i s = .next { s with cpu := { s.cpu with a := v, pc := s.cpu.pc + 1, cycles := 8 } }) ∧
    (i.form = .ldA .de → memRead s (getDE s) = .ok v →
      exec i s = .next { s with cpu := { s.cpu with a := v, pc := s.cpu.pc + 1, cycles := 8 } }) ∧
    (∀ nn, i.form = .ldA (.abs nn) → memRead s nn = .ok v →
      exec i s = .next { s with cpu := { s.cpu with a := v, pc := s.cpu.pc + 3, cycles := 16 } }) ∧
    (∀ n, i.form = .ldA (.high n) → memRead s (0xFF00 + zext16 n) = .ok v →
      exec i s = .next { s with cpu := { s.cpu with a := v, pc := s.cpu.pc + 2, cycles := 12 } }) ∧
    (i.form = .ldA .highC → memRead s (0xFF00 + zext16 s.cpu.c) = .ok v →
      exec i s = .next { s with cpu := { s.cpu with a := v, pc := s.cpu.pc + 1, cycles := 8 } }) ∧
    (i.form = .ldA .hlInc → memRead s (getHL s) = .ok v →
      exec i s = .next { s with cpu := { s.cpu with
        a := v, h := hi (getHL s + 1), l := lo (getHL s + 1), pc := s.cpu.pc + 1, cycles := 8 } }) ∧
    (i.form = .ldA .hlDec → memRead s (getHL s) = .ok v →
      exec i s = .next { s with cpu := { s.cpu with
        a := v, h := hi (getHL s - 1), l := lo (getHL s - 1), pc := s.cpu.pc + 1, cycles := 8 } }) ∧
    (∀ m f, i.form = .ldA m → memRead s (modeAddr s m) = .error f → Raises (exec i s) f)

/-- The seven stores of `A` to memory (R158, R159, R161, R163, R165, R168, R169). -/
def Obligations.StoreAccumulator : Prop :=
  ∀ (i : Instr) (s : State),
    encode i = formBytes i.form ∧
    (i.form = .stA .bc → canWrite s (getBC s) s.cpu.a = true → ∃ t, memWrite s (getBC s) s.cpu.a = .ok t ∧
      exec i s = .next { t with cpu := { s.cpu with pc := s.cpu.pc + 1, cycles := 8 } }) ∧
    (i.form = .stA .de → canWrite s (getDE s) s.cpu.a = true → ∃ t, memWrite s (getDE s) s.cpu.a = .ok t ∧
      exec i s = .next { t with cpu := { s.cpu with pc := s.cpu.pc + 1, cycles := 8 } }) ∧
    (∀ nn, i.form = .stA (.abs nn) → canWrite s nn s.cpu.a = true → ∃ t, memWrite s nn s.cpu.a = .ok t ∧
      exec i s = .next { t with cpu := { s.cpu with pc := s.cpu.pc + 3, cycles := 16 } }) ∧
    (∀ n, i.form = .stA (.high n) → canWrite s (0xFF00 + zext16 n) s.cpu.a = true →
      ∃ t, memWrite s (0xFF00 + zext16 n) s.cpu.a = .ok t ∧
      exec i s = .next { t with cpu := { s.cpu with pc := s.cpu.pc + 2, cycles := 12 } }) ∧
    (i.form = .stA .highC → canWrite s (0xFF00 + zext16 s.cpu.c) s.cpu.a = true →
      ∃ t, memWrite s (0xFF00 + zext16 s.cpu.c) s.cpu.a = .ok t ∧
      exec i s = .next { t with cpu := { s.cpu with pc := s.cpu.pc + 1, cycles := 8 } }) ∧
    (i.form = .stA .hlInc → canWrite s (getHL s) s.cpu.a = true → ∃ t, memWrite s (getHL s) s.cpu.a = .ok t ∧
      exec i s = .next { t with cpu := { s.cpu with
        h := hi (getHL s + 1), l := lo (getHL s + 1), pc := s.cpu.pc + 1, cycles := 8 } }) ∧
    (i.form = .stA .hlDec → canWrite s (getHL s) s.cpu.a = true → ∃ t, memWrite s (getHL s) s.cpu.a = .ok t ∧
      exec i s = .next { t with cpu := { s.cpu with
        h := hi (getHL s - 1), l := lo (getHL s - 1), pc := s.cpu.pc + 1, cycles := 8 } }) ∧
    (∀ m f, i.form = .stA m → memWrite s (modeAddr s m) s.cpu.a = .error f → Raises (exec i s) f)

/-! ## 16-bit loads and the stack -/

/-- `LD rr,nn` (R180), `LD SP,HL` (R182) and `LD HL,SP+e` (R183, with its flags from the low byte). -/
def Obligations.LoadPairs : Prop :=
  ∀ (i : Instr) (s : State) (nn : Word) (e : Byte),
    encode i = formBytes i.form ∧
    (i.form = .ldRRNN .bc nn →
      exec i s = .next { s with cpu := { s.cpu with b := hi nn, c := lo nn, pc := s.cpu.pc + 3, cycles := 12 } }) ∧
    (i.form = .ldRRNN .de nn →
      exec i s = .next { s with cpu := { s.cpu with d := hi nn, e := lo nn, pc := s.cpu.pc + 3, cycles := 12 } }) ∧
    (i.form = .ldRRNN .hl nn →
      exec i s = .next { s with cpu := { s.cpu with h := hi nn, l := lo nn, pc := s.cpu.pc + 3, cycles := 12 } }) ∧
    (i.form = .ldRRNN .sp nn →
      exec i s = .next { s with cpu := { s.cpu with sp := nn, pc := s.cpu.pc + 3, cycles := 12 } }) ∧
    (i.form = .ldSPHL →
      exec i s = .next { s with cpu := { s.cpu with sp := getHL s, pc := s.cpu.pc + 1, cycles := 8 } }) ∧
    (i.form = .ldHLSP e →
      let w := s.cpu.sp + sext16 e
      exec i s = .next { s with cpu := { s.cpu with
        h := hi w, l := lo w,
        f := flagsByte false false (decide ((s.cpu.sp &&& 0x000F).toNat + (e &&& 0x0F).toNat > 0x0F))
          (decide ((s.cpu.sp &&& 0x00FF).toNat + e.toNat > 0xFF)),
        pc := s.cpu.pc + 2, cycles := 12 } })

/-- `LD (nn),SP` (R181, R94): the low byte at `nn`, then the high byte at `nn + 1`; if the first write raises a `Fatal` the
second is not made. -/
def Obligations.StoreStackPointer : Prop :=
  ∀ (i : Instr) (s : State) (nn : Word), i.form = .stSP nn →
    encode i = formBytes i.form ∧
    (canWrite16 s nn s.cpu.sp = true →
      ∃ t u, memWrite s nn (lo s.cpu.sp) = .ok t ∧ memWrite t (nn + 1) (hi s.cpu.sp) = .ok u ∧
        exec i s = .next { u with cpu := { s.cpu with pc := s.cpu.pc + 3, cycles := 20 } }) ∧
    (∀ f, memWrite s nn (lo s.cpu.sp) = .error f → Raises (exec i s) f) ∧
    (∀ t f, memWrite s nn (lo s.cpu.sp) = .ok t → memWrite t (nn + 1) (hi s.cpu.sp) = .error f → Raises (exec i s) f)

/-- `PUSH rr` (R184): the high byte at `SP - 1`, then the low byte at `SP - 2`, `SP` two lower. -/
def Obligations.PushWritesPair : Prop :=
  ∀ (i : Instr) (s : State) (w : Word),
    ((i.form = .push .bc ∧ w = getBC s) ∨ (i.form = .push .de ∧ w = getDE s) ∨ (i.form = .push .hl ∧ w = getHL s) ∨
      (i.form = .push .af ∧ w = getAF s)) →
    encode i = formBytes i.form ∧
    (canPush s w = true →
      ∃ t u, memWrite s (s.cpu.sp - 1) (hi w) = .ok t ∧ memWrite t (s.cpu.sp - 2) (lo w) = .ok u ∧
        exec i s = .next { u with cpu := { s.cpu with sp := s.cpu.sp - 2, pc := s.cpu.pc + 1, cycles := 16 } }) ∧
    (canPush s w = false → ∃ f, Raises (exec i s) f)

/-- `POP rr` (R185): the low byte from `SP`, the high byte from `SP + 1`, `SP` two higher; `POP AF` discards the low nibble
of the byte it loads into `F`. A bus fault on either read is the step's. -/
def Obligations.PopReadsPair : Prop :=
  ∀ (i : Instr) (s : State) (rr : Reg16S), i.form = .pop rr →
    encode i = formBytes i.form ∧
    (∀ l h, memRead s s.cpu.sp = .ok l → memRead s (s.cpu.sp + 1) = .ok h →
      (rr = .bc → exec i s = .next { s with cpu := { s.cpu with
        b := h, c := l, sp := s.cpu.sp + 2, pc := s.cpu.pc + 1, cycles := 12 } }) ∧
      (rr = .de → exec i s = .next { s with cpu := { s.cpu with
        d := h, e := l, sp := s.cpu.sp + 2, pc := s.cpu.pc + 1, cycles := 12 } }) ∧
      (rr = .hl → exec i s = .next { s with cpu := { s.cpu with
        h := h, l := l, sp := s.cpu.sp + 2, pc := s.cpu.pc + 1, cycles := 12 } }) ∧
      (rr = .af → exec i s = .next { s with cpu := { s.cpu with
        a := h, f := l &&& 0xF0, sp := s.cpu.sp + 2, pc := s.cpu.pc + 1, cycles := 12 } })) ∧
    (∀ f, memRead s s.cpu.sp = .error f → Raises (exec i s) f) ∧
    (∀ l f, memRead s s.cpu.sp = .ok l → memRead s (s.cpu.sp + 1) = .error f → Raises (exec i s) f)

/-- A pop undoes a push (R186): with the stack in RAM, `PUSH rr` and then `POP` of any pair `qq` gives `qq` the value of
`rr`, but for the low nibble of `F`, and `SP` is as before; what was pushed lies little-endian at the new `SP`. -/
def Obligations.PopUndoesPush : Prop :=
  ∀ (i j : Instr) (rr qq : Reg16S) (s : State), i.form = .push rr → j.form = .pop qq →
    s.mem.wf s.launch.variant = true → isRam s (s.cpu.sp - 1) = true → isRam s (s.cpu.sp - 2) = true →
    ∃ t u, exec i s = .next t ∧ exec j t = .next u ∧ u.cpu.sp = s.cpu.sp ∧ t.cpu.sp = s.cpu.sp - 2 ∧
      memRead t t.cpu.sp = .ok (lo (getR16S s rr)) ∧ memRead t (t.cpu.sp + 1) = .ok (hi (getR16S s rr)) ∧
      getR16S u qq = (if qq = .af then getR16S s rr &&& 0xFFF0 else getR16S s rr)

/-! ## 8-bit arithmetic and logic -/

/-- `ADD` and `ADC` (R202, R203), in the three operand forms of R201; a bus fault on the read of `(HL)` is the step's. -/
def Obligations.AddAndAdc : Prop :=
  ∀ (i : Instr) (s : State) (op : AluOp), op = .add ∨ op = .adc →
    encode i = formBytes i.form ∧
    (∀ (v : Byte) (len : Word) (cost : Nat), AluOperand i s op v len cost →
      let cin : Nat := if op = .adc ∧ flagC s = true then 1 else 0
      let sum := s.cpu.a.toNat + v.toNat + cin
      exec i s = .next { s with cpu := { s.cpu with
        a := BitVec.ofNat 8 sum,
        f := flagsByte (decide (sum % 256 = 0)) false
          (decide ((s.cpu.a &&& 0xF).toNat + (v &&& 0xF).toNat + cin > 0xF)) (decide (sum > 0xFF)),
        pc := s.cpu.pc + len, cycles := cost } }) ∧
    (∀ f, i.form = .aluM op → memRead s (getHL s) = .error f → Raises (exec i s) f)

/-- `SUB`, `SBC` and `CP` (R204, R205, R209), in the three operand forms of R201; the difference is taken on the integers.
`CP` leaves `A`. A bus fault on the read of `(HL)` is the step's. -/
def Obligations.SubSbcAndCp : Prop :=
  ∀ (i : Instr) (s : State) (op : AluOp), op = .sub ∨ op = .sbc ∨ op = .cp →
    encode i = formBytes i.form ∧
    (∀ (v : Byte) (len : Word) (cost : Nat), AluOperand i s op v len cost →
      let cin : Nat := if op = .sbc ∧ flagC s = true then 1 else 0
      let diff : Int := (s.cpu.a.toNat : Int) - v.toNat - cin
      exec i s = .next { s with cpu := { s.cpu with
        a := if op = .cp then s.cpu.a else BitVec.ofInt 8 diff,
        f := flagsByte (decide (diff % 256 = 0)) true
          (decide ((s.cpu.a &&& 0xF).toNat < (v &&& 0xF).toNat + cin)) (decide (diff < 0)),
        pc := s.cpu.pc + len, cycles := cost } }) ∧
    (∀ f, i.form = .aluM op → memRead s (getHL s) = .error f → Raises (exec i s) f)

/-- `AND`, `XOR` and `OR` (R206 to R208), in the three operand forms of R201, bit by bit; a bus fault on the read of `(HL)` is
the step's. -/
def Obligations.LogicOperations : Prop :=
  ∀ (i : Instr) (s : State) (op : AluOp), op = .and ∨ op = .xor ∨ op = .or →
    encode i = formBytes i.form ∧
    (∀ (v : Byte) (len : Word) (cost : Nat), AluOperand i s op v len cost →
      ∃ res : Byte, exec i s = .next { s with cpu := { s.cpu with
          a := res, f := flagsByte (decide (res.toNat = 0)) false (decide (op = .and)) false,
          pc := s.cpu.pc + len, cycles := cost } } ∧
        ∀ k, res.getLsbD k =
          (if op = .and then s.cpu.a.getLsbD k && v.getLsbD k
            else if op = .xor then Bool.xor (s.cpu.a.getLsbD k) (v.getLsbD k)
            else s.cpu.a.getLsbD k || v.getLsbD k)) ∧
    (∀ f, i.form = .aluM op → memRead s (getHL s) = .error f → Raises (exec i s) f)

/-- `INC r` (R210), `DEC r` (R212), `INC (HL)` (R211), `DEC (HL)` (R213): the carry flag is untouched; on `(HL)` a read and a
write, the flags by the value read; a bus fault on either is the step's. -/
def Obligations.IncrementAndDecrement : Prop :=
  ∀ (i : Instr) (s : State) (down : Bool),
    let res := fun v : Byte => BitVec.ofNat 8 (if down then v.toNat + 255 else v.toNat + 1)
    let flags := fun v : Byte => flagsByte (decide (v.toNat = if down then 1 else 255)) down
      (decide (v.toNat % 16 = if down then 0 else 15)) (flagC s)
    encode i = formBytes i.form ∧
    (∀ r, (down = false ∧ i.form = .incR r) ∨ (down = true ∧ i.form = .decR r) →
      ∃ t, exec i s = .next t ∧ RegResult s t r (res (getR8 s r)) (flags (getR8 s r)) 1 4) ∧
    ((down = false ∧ i.form = .incM) ∨ (down = true ∧ i.form = .decM) →
      (∀ v, memRead s (getHL s) = .ok v →
        (canWrite s (getHL s) (res v) = true → ∃ t, memWrite s (getHL s) (res v) = .ok t ∧
          exec i s = .next { t with cpu := { s.cpu with f := flags v, pc := s.cpu.pc + 1, cycles := 12 } }) ∧
        (∀ e, memWrite s (getHL s) (res v) = .error e → Raises (exec i s) e)) ∧
      (∀ e, memRead s (getHL s) = .error e → Raises (exec i s) e))

/-- `DAA` (R214): the two adjustments of each branch, the second test of the addition branch on the ORIGINAL low nibble, which
the first adjustment does not change. -/
def Obligations.DecimalAdjust : Prop :=
  ∀ (i : Instr) (s : State), i.form = .daa →
    encode i = [0x27] ∧
    let a := s.cpu.a.toNat
    let up := if flagN s then flagC s else flagC s || decide (a > 0x99)
    let low := if flagN s then flagH s else flagH s || decide (a % 16 > 9)
    let adj := (if up then 0x60 else 0) + (if low then 0x06 else 0)
    let r := if flagN s then (a + 256 - adj) % 256 else (a + adj) % 256
    exec i s = .next { s with cpu := { s.cpu with
      a := BitVec.ofNat 8 r, f := flagsByte (decide (r = 0)) (flagN s) false up, pc := s.cpu.pc + 1, cycles := 4 } }

/-- `CPL` (R215), `SCF` (R216), `CCF` (R217): which flags each writes and which it keeps. -/
def Obligations.ComplementAndCarryFlag : Prop :=
  ∀ (i : Instr) (s : State),
    encode i = formBytes i.form ∧
    (i.form = .cpl → exec i s = .next { s with cpu := { s.cpu with
      a := BitVec.ofNat 8 (255 - s.cpu.a.toNat), f := flagsByte (flagZ s) true true (flagC s),
      pc := s.cpu.pc + 1, cycles := 4 } }) ∧
    (i.form = .scf → exec i s = .next { s with cpu := { s.cpu with
      f := flagsByte (flagZ s) false false true, pc := s.cpu.pc + 1, cycles := 4 } }) ∧
    (i.form = .ccf → exec i s = .next { s with cpu := { s.cpu with
      f := flagsByte (flagZ s) false false (!flagC s), pc := s.cpu.pc + 1, cycles := 4 } })

/-! ## 16-bit arithmetic -/

/-- `ADD HL,rr` (R240): `Z` kept, `H` the carry out of bit 11, `C` out of bit 15. `INC rr` (R241) and `DEC rr` (R242): no
flag. `ADD SP,e` (R243): flags from the low byte. -/
def Obligations.SixteenBitArithmetic : Prop :=
  ∀ (i : Instr) (s : State),
    encode i = formBytes i.form ∧
    (∀ b : Word, (i.form = .addHL .bc ∧ b = getBC s) ∨ (i.form = .addHL .de ∧ b = getDE s) ∨
        (i.form = .addHL .hl ∧ b = getHL s) ∨ (i.form = .addHL .sp ∧ b = s.cpu.sp) →
      let sum := (getHL s).toNat + b.toNat
      exec i s = .next { s with cpu := { s.cpu with
        h := hi (BitVec.ofNat 16 sum), l := lo (BitVec.ofNat 16 sum),
        f := flagsByte (flagZ s) false (decide ((getHL s &&& 0x0FFF).toNat + (b &&& 0x0FFF).toNat > 0x0FFF))
          (decide (sum > 0xFFFF)),
        pc := s.cpu.pc + 1, cycles := 8 } }) ∧
    (∀ (k : Word) (rr : Reg16), (k = 1 ∧ i.form = .incRR rr) ∨ (k = 0xFFFF ∧ i.form = .decRR rr) →
      (rr = .bc → exec i s = .next { s with cpu := { s.cpu with
        b := hi (getBC s + k), c := lo (getBC s + k), pc := s.cpu.pc + 1, cycles := 8 } }) ∧
      (rr = .de → exec i s = .next { s with cpu := { s.cpu with
        d := hi (getDE s + k), e := lo (getDE s + k), pc := s.cpu.pc + 1, cycles := 8 } }) ∧
      (rr = .hl → exec i s = .next { s with cpu := { s.cpu with
        h := hi (getHL s + k), l := lo (getHL s + k), pc := s.cpu.pc + 1, cycles := 8 } }) ∧
      (rr = .sp → exec i s = .next { s with cpu := { s.cpu with
        sp := s.cpu.sp + k, pc := s.cpu.pc + 1, cycles := 8 } })) ∧
    (∀ e, i.form = .addSP e →
      exec i s = .next { s with cpu := { s.cpu with
        sp := s.cpu.sp + sext16 e,
        f := flagsByte false false (decide ((s.cpu.sp &&& 0x000F).toNat + (e &&& 0x0F).toNat > 0x0F))
          (decide ((s.cpu.sp &&& 0x00FF).toNat + e.toNat > 0xFF)),
        pc := s.cpu.pc + 2, cycles := 16 } })

/-! ## Rotates, shifts and bits -/

/-- `RLCA`, `RRCA`, `RLA`, `RRA` (R250 to R253): `Z` is cleared whatever the result. -/
def Obligations.RotateAccumulator : Prop :=
  ∀ (i : Instr) (s : State) (op : RotOp),
    ((i.form = .rotA .rlca ∧ op = .rlc) ∨ (i.form = .rotA .rrca ∧ op = .rrc) ∨ (i.form = .rotA .rla ∧ op = .rl) ∨
      (i.form = .rotA .rra ∧ op = .rr)) →
    encode i = formBytes i.form ∧
    let q := rotNat op s.cpu.a.toNat (flagC s).toNat
    exec i s = .next { s with cpu := { s.cpu with
      a := BitVec.ofNat 8 q.1, f := flagsByte false false false q.2, pc := s.cpu.pc + 1, cycles := 4 } }

/-- The eight rotates, shifts and the swap of the CB table (R254 to R262), on a register and on the byte at `HL`; a bus fault on
the read or the write of `(HL)` is the step's. -/
def Obligations.RotateShiftSwap : Prop :=
  ∀ (i : Instr) (s : State) (op : RotOp),
    let q := fun v : Byte => rotNat op v.toNat (flagC s).toNat
    encode i = formBytes i.form ∧
    (∀ r, i.form = .rotR op r →
      ∃ t, exec i s = .next t ∧
        RegResult s t r (BitVec.ofNat 8 (q (getR8 s r)).1)
          (flagsByte (decide ((q (getR8 s r)).1 = 0)) false false (q (getR8 s r)).2) 2 8) ∧
    (i.form = .rotM op →
      (∀ v, memRead s (getHL s) = .ok v →
        (canWrite s (getHL s) (BitVec.ofNat 8 (q v).1) = true →
          ∃ t, memWrite s (getHL s) (BitVec.ofNat 8 (q v).1) = .ok t ∧
            exec i s = .next { t with cpu := { s.cpu with
              f := flagsByte (decide ((q v).1 = 0)) false false (q v).2, pc := s.cpu.pc + 2, cycles := 16 } }) ∧
        (∀ f, memWrite s (getHL s) (BitVec.ofNat 8 (q v).1) = .error f → Raises (exec i s) f)) ∧
      (∀ f, memRead s (getHL s) = .error f → Raises (exec i s) f))

/-- `BIT b,t` (R263): `Z` is the complement of the bit, the operand is not written; a bus fault on the read of `(HL)` is the
step's. -/
def Obligations.BitTest : Prop :=
  ∀ (i : Instr) (s : State) (b : Nat),
    encode i = formBytes i.form ∧
    (∀ (v : Byte) (cost : Nat), ((∃ r, i.form = .bitR b r ∧ v = getR8 s r ∧ cost = 8) ∨
        (i.form = .bitM b ∧ memRead s (getHL s) = .ok v ∧ cost = 12)) →
      exec i s = .next { s with cpu := { s.cpu with
        f := flagsByte (decide (v.toNat / 2 ^ b % 2 = 0)) false true (flagC s), pc := s.cpu.pc + 2, cycles := cost } }) ∧
    (∀ f, i.form = .bitM b → memRead s (getHL s) = .error f → Raises (exec i s) f)

/-- `RES b,t` (R264) and `SET b,t` (R265): bit `b` becomes 0 or 1, every other bit and every flag is kept; a byte at `HL` is
written back even where the bit already had that value; a bus fault on its read or write is the step's. -/
def Obligations.ResetAndSetBit : Prop :=
  ∀ (i : Instr) (s : State) (b : Nat) (one : Bool),
    encode i = formBytes i.form ∧
    (∀ (r : Reg8) (w : Byte), (one = false ∧ i.form = .resR b r) ∨ (one = true ∧ i.form = .setR b r) →
      (∀ k, k < 8 → w.getLsbD k = if k = b then one else (getR8 s r).getLsbD k) →
      ∃ t, exec i s = .next t ∧ RegResult s t r w s.cpu.f 2 8) ∧
    ((one = false ∧ i.form = .resM b) ∨ (one = true ∧ i.form = .setM b) →
      (∀ v w : Byte, memRead s (getHL s) = .ok v →
        (∀ k, k < 8 → w.getLsbD k = if k = b then one else v.getLsbD k) →
        (canWrite s (getHL s) w = true → ∃ t, memWrite s (getHL s) w = .ok t ∧
          exec i s = .next { t with cpu := { s.cpu with pc := s.cpu.pc + 2, cycles := 16 } }) ∧
        (∀ f, memWrite s (getHL s) w = .error f → Raises (exec i s) f)) ∧
      (∀ f, memRead s (getHL s) = .error f → Raises (exec i s) f))

/-- The prefix byte and the byte after it are one instruction, the CB-table row of that byte (R306, R130): the two bytes decode
to that row, never to the prefix row, and the prefix row of the opcode table, given that byte, does what the row does
(log 8). -/
def Obligations.PrefixRowIsItsCbRow : Prop :=
  ∀ op2 : Byte, (∃ i, decode [0xCB, op2] = .ok (i, []) ∧ i.form = cbForm op2 ∧
      (∀ b, i ≠ .prefix_CB b) ∧ ∀ s : State, ∃ t, exec (.prefix_CB op2) s = .next t ∧ exec i s = .next t)

/-! ## Control transfer and system instructions -/

/-- `JP nn`, `JP cc,nn`, `JP HL`, `JR e`, `JR cc,e` with their taken and not-taken costs (R281 to R285), and the four
conditions (R126, R280). -/
def Obligations.Jumps : Prop :=
  ∀ (i : Instr) (s : State) (nn : Word) (e : Byte),
    encode i = formBytes i.form ∧
    (i.form = .jp nn → exec i s = .next { s with cpu := { s.cpu with pc := nn, cycles := 16 } }) ∧
    (i.form = .jpHL → exec i s = .next { s with cpu := { s.cpu with pc := getHL s, cycles := 4 } }) ∧
    (i.form = .jr e →
      exec i s = .next { s with cpu := { s.cpu with pc := s.cpu.pc + 2 + sext16 e, cycles := 12 } }) ∧
    (∀ (cc : Cond) (holds : Bool),
      (cc = .nz ∧ holds = !s.cpu.f.getLsbD 7) ∨ (cc = .z ∧ holds = s.cpu.f.getLsbD 7) ∨
        (cc = .nc ∧ holds = !s.cpu.f.getLsbD 4) ∨ (cc = .c ∧ holds = s.cpu.f.getLsbD 4) →
      (i.form = .jpCC cc nn →
        exec i s = .next { s with cpu := { s.cpu with
          pc := if holds then nn else s.cpu.pc + 3, cycles := if holds then 16 else 12 } }) ∧
      (i.form = .jrCC cc e →
        exec i s = .next { s with cpu := { s.cpu with
          pc := if holds then s.cpu.pc + 2 + sext16 e else s.cpu.pc + 2, cycles := if holds then 12 else 8 } }))

/-- `CALL nn` (R286), `CALL cc,nn` taken and not taken (R287) and `RST t` (R290): the return address goes on the stack as a
push does, `PC` to the target. -/
def Obligations.CallsPushReturnAddress : Prop :=
  ∀ (i : Instr) (s : State) (ret target : Word) (cost : Nat),
    encode i = formBytes i.form ∧
    ((i.form = .call target ∧ ret = s.cpu.pc + 3 ∧ cost = 24) ∨
      (∃ cc, i.form = .callCC cc target ∧ condHolds s cc = true ∧ ret = s.cpu.pc + 3 ∧ cost = 24) ∨
      (∃ t8, i.form = .rst t8 ∧ target = zext16 t8 ∧ ret = s.cpu.pc + 1 ∧ cost = 16) →
    (canPush s ret = true →
      ∃ t u, memWrite s (s.cpu.sp - 1) (hi ret) = .ok t ∧ memWrite t (s.cpu.sp - 2) (lo ret) = .ok u ∧
        exec i s = .next { u with cpu := { s.cpu with sp := s.cpu.sp - 2, pc := target, cycles := cost } }) ∧
    (canPush s ret = false → ∃ f, Raises (exec i s) f)) ∧
    (∀ cc, i.form = .callCC cc target → condHolds s cc = false →
      exec i s = .next { s with cpu := { s.cpu with pc := s.cpu.pc + 3, cycles := 12 } })

/-- `RET` (R288), `RET cc` taken and not taken (R289) and `RETI` (R291, which also sets `IME` at once). -/
def Obligations.ReturnsPopPc : Prop :=
  ∀ (i : Instr) (s : State),
    encode i = formBytes i.form ∧
    (∀ l h, memRead s s.cpu.sp = .ok l → memRead s (s.cpu.sp + 1) = .ok h →
      (i.form = .ret →
        exec i s = .next { s with cpu := { s.cpu with pc := pair h l, sp := s.cpu.sp + 2, cycles := 16 } }) ∧
      (∀ cc, i.form = .retCC cc → condHolds s cc = true →
        exec i s = .next { s with cpu := { s.cpu with pc := pair h l, sp := s.cpu.sp + 2, cycles := 20 } }) ∧
      (i.form = .reti →
        exec i s = .next { s with cpu := { s.cpu with
          pc := pair h l, sp := s.cpu.sp + 2, ime := true, cycles := 16 } })) ∧
    (∀ cc, i.form = .retCC cc → condHolds s cc = false →
      exec i s = .next { s with cpu := { s.cpu with pc := s.cpu.pc + 1, cycles := 8 } }) ∧
    (canPop s = false → i.form = .ret ∨ i.form = .reti ∨ (∃ cc, i.form = .retCC cc ∧ condHolds s cc = true) →
      ∃ f, Raises (exec i s) f)

/-- `NOP` (R300), `DI` (R303), `EI` (R304, at once) and `HALT` (R301); and `STOP` (R302), whose effect is to raise its `Fatal`,
with no other change, whatever the byte it skips (that this byte is an operand: log 10). -/
def Obligations.SystemInstructions : Prop :=
  ∀ (i : Instr) (s : State),
    encode i = formBytes i.form ∧
    (i.form = .nop → exec i s = .next { s with cpu := { s.cpu with pc := s.cpu.pc + 1, cycles := 4 } }) ∧
    (i.form = .di → exec i s = .next { s with cpu := { s.cpu with ime := false, pc := s.cpu.pc + 1, cycles := 4 } }) ∧
    (i.form = .ei → exec i s = .next { s with cpu := { s.cpu with ime := true, pc := s.cpu.pc + 1, cycles := 4 } }) ∧
    (i.form = .halt → exec i s = .next { s with cpu := { s.cpu with halted := true, pc := s.cpu.pc + 1, cycles := 4 } }) ∧
    (∀ skipped, i.form = .stop skipped → exec i s = .next { s with fault := some (.unimplementedOpcode 0x10 s.cpu.pc) })

/-- The eleven illegal opcodes (R305, R503): each raises `Fatal(UnmappedOpcode)` with its opcode and `PC`, changes no register, flag
or memory byte, and so takes the machine into the faulted state; no other instruction has this form. -/
def Obligations.IllegalOpcodesRaise : Prop :=
  (∀ (i : Instr) (s : State) (op : Byte), i.form = .illegal op →
    exec i s = .next { s with fault := some (.unmappedOpcode op s.cpu.pc) } ∧ encode i = [op] ∧
    op ∈ ([0xD3, 0xDB, 0xDD, 0xE3, 0xE4, 0xEB, 0xEC, 0xED, 0xF4, 0xFC, 0xFD] : List Byte)) ∧
  (∀ op ∈ ([0xD3, 0xDB, 0xDD, 0xE3, 0xE4, 0xEB, 0xEC, 0xED, 0xF4, 0xFC, 0xFD] : List Byte),
    ∃ i, decode [op] = .ok (i, []) ∧ i.form = .illegal op)

/-! ## The bus -/

/-- Which addresses are unmapped, and what an access to one does under each policy (R91, R92); and when any access completes:
a read unless its address is unmapped under the fatal policy, a write likewise, but that a copy trigger must be able to
read its source (R329, R342). -/
def Obligations.UnmappedAddressesAndCompletion : Prop :=
  ∀ (s : State) (a : Word) (v : Byte),
    let n := a.toNat
    (isUnmapped s a = true ↔
      n = 0xFF03 ∨ (0xFF08 ≤ n ∧ n ≤ 0xFF0E) ∨ (0xFF4C ≤ n ∧ n ≤ 0xFF4E) ∨ n = 0xFF50 ∨ (0xFF56 ≤ n ∧ n ≤ 0xFF67) ∨
      (0xFF6C ≤ n ∧ n ≤ 0xFF6F) ∨ (0xFF71 ≤ n ∧ n ≤ 0xFF7F) ∨
      (s.launch.variant = .dmg ∧
        (n = 0xFF4F ∨ (0xFF51 ≤ n ∧ n ≤ 0xFF55) ∨ (0xFF68 ≤ n ∧ n ≤ 0xFF6B) ∨ n = 0xFF70))) ∧
    (isUnmapped s a = true → s.launch.unmappedPolicy = .fatal →
      memRead s a = .error (.unmappedAddress a false) ∧ memWrite s a v = .error (.unmappedAddress a true)) ∧
    (isUnmapped s a = true → s.launch.unmappedPolicy = .sentinel → memRead s a = .ok 0xFF ∧ memWrite s a v = .ok s) ∧
    ((∃ b, memRead s a = .ok b) ↔ canRead s a = true) ∧
    ((∃ t, memWrite s a v = .ok t) ↔ canWrite s a v = true)

/-- The regions of the address map other than the I/O registers (R71): video RAM in the bank of `VBK` (R76), the two halves of
work RAM (R82, R83), the echo (R85), OAM (R86), the no-op range (R87), the default external unit (R88), sound storage (R90), high RAM
(R95), `IE` (R96), and the cartridge ranges, on the default cartridge ROM bytes that no write changes and no RAM (R74, R75, R77, R79). -/
def Obligations.AddressMapRegions : Prop :=
  ∀ (s : State) (a : Word) (v : Byte),
    let n := a.toNat
    let cgb := s.launch.variant = .cgb
    (n < 0x8000 → ∀ rom, s.cart = .noController rom → memRead s a = .ok (rom.read n) ∧ memWrite s a v = .ok s) ∧
    (0x8000 ≤ n → n < 0xA000 →
      let i := (if cgb then s.ppu.vbk.toNat else 0) * 0x2000 + (n - 0x8000)
      memRead s a = .ok (s.mem.vram.read i) ∧
      memWrite s a v = .ok { s with mem := { s.mem with vram := s.mem.vram.write i v } }) ∧
    (0xA000 ≤ n → n < 0xC000 → ∀ rom, s.cart = .noController rom → memRead s a = .ok 0xFF ∧ memWrite s a v = .ok s) ∧
    (0xC000 ≤ n → n < 0xD000 →
      memRead s a = .ok (s.mem.wram.read (n - 0xC000)) ∧
      memWrite s a v = .ok { s with mem := { s.mem with wram := s.mem.wram.write (n - 0xC000) v } }) ∧
    (0xD000 ≤ n → n < 0xE000 →
      let i := (if cgb ∧ s.svbk ≠ 0 then s.svbk.toNat else 1) * 0x1000 + (n - 0xD000)
      memRead s a = .ok (s.mem.wram.read i) ∧
      memWrite s a v = .ok { s with mem := { s.mem with wram := s.mem.wram.write i v } }) ∧
    (0xE000 ≤ n → n < 0xFE00 →
      memRead s a = memRead s (a - 0x2000) ∧ memWrite s a v = memWrite s (a - 0x2000) v) ∧
    (0xFE00 ≤ n → n < 0xFEA0 →
      memRead s a = .ok (s.mem.oam.read (n - 0xFE00)) ∧
      memWrite s a v = .ok { s with mem := { s.mem with oam := s.mem.oam.write (n - 0xFE00) v } }) ∧
    (0xFEA0 ≤ n → n < 0xFF00 → memRead s a = .ok 0xFF ∧ memWrite s a v = .ok s) ∧
    (0xFF00 ≤ n → n < 0xFF03 → ∀ polls, s.ext = .scripted polls → memRead s a = .ok 0xFF ∧ memWrite s a v = .ok s) ∧
    (0xFF10 ≤ n → n < 0xFF40 →
      memRead s a = .ok (s.mem.snd.read (n - 0xFF10)) ∧
      memWrite s a v = .ok { s with mem := { s.mem with snd := s.mem.snd.write (n - 0xFF10) v } }) ∧
    (0xFF80 ≤ n → n < 0xFFFF →
      memRead s a = .ok (s.mem.hram.read (n - 0xFF80)) ∧
      memWrite s a v = .ok { s with mem := { s.mem with hram := s.mem.hram.write (n - 0xFF80) v } }) ∧
    (n = 0xFFFF → memRead s a = .ok s.ie ∧ memWrite s a v = .ok { s with ie := v })

/-- A read returns the latest byte written to the location (R102 (a)), through every address of it (R85), and no other
location changes; a 16-bit write is read back whole, low byte at the lower address (R93, R94). -/
def Obligations.RamReadsLatestWrite : Prop :=
  ∀ (s t : State) (a : Word), s.mem.wf s.launch.variant = true → isRam s a = true →
    (∀ v, memWrite s a v = .ok t →
      (∀ b, locate s b = locate s a → memRead t b = .ok v) ∧
      (∀ b, locate s b ≠ locate s a → memRead t b = memRead s b) ∧ t.mem.wf t.launch.variant = true) ∧
    (∀ w, isRam s (a + 1) = true → memWrite16 s a w = .ok t →
      memRead t a = .ok (lo w) ∧ memRead t (a + 1) = .ok (hi w) ∧ memRead16 t a = .ok w)

/-- The control registers of both variants: what a read returns and all that a write changes (R321 to R328, R331, R332, R482
to R485, R514 to R517). `STAT` keeps its low three bits (R324), `LY` and `DIV` go to 0 whatever is written (R326, R514), `IF`
keeps five bits (R483), every other is plain storage. -/
def Obligations.ControlRegisters : Prop :=
  ∀ (s : State) (v : Byte),
    (memRead s 0xFF04 = .ok s.timer.div ∧ memWrite s 0xFF04 v = .ok { s with timer := { s.timer with div := 0 } }) ∧
    (memRead s 0xFF05 = .ok s.timer.tima ∧ memWrite s 0xFF05 v = .ok { s with timer := { s.timer with tima := v } }) ∧
    (memRead s 0xFF06 = .ok s.timer.tma ∧ memWrite s 0xFF06 v = .ok { s with timer := { s.timer with tma := v } }) ∧
    (memRead s 0xFF07 = .ok s.timer.tac ∧ memWrite s 0xFF07 v = .ok { s with timer := { s.timer with tac := v } }) ∧
    (memRead s 0xFF0F = .ok (BitVec.ofNat 8 s.ifReg.toNat) ∧
      memWrite s 0xFF0F v = .ok { s with ifReg := BitVec.ofNat 5 (v.toNat % 32) }) ∧
    (memRead s 0xFF40 = .ok s.ppu.lcdc ∧ memWrite s 0xFF40 v = .ok { s with ppu := { s.ppu with lcdc := v } }) ∧
    (memRead s 0xFF41 = .ok s.ppu.stat ∧
      ∃ w : Byte, memWrite s 0xFF41 v = .ok { s with ppu := { s.ppu with stat := w } } ∧
        ∀ k, k < 8 → w.getLsbD k = if k < 3 then s.ppu.stat.getLsbD k else v.getLsbD k) ∧
    (memRead s 0xFF42 = .ok s.ppu.scy ∧ memWrite s 0xFF42 v = .ok { s with ppu := { s.ppu with scy := v } }) ∧
    (memRead s 0xFF43 = .ok s.ppu.scx ∧ memWrite s 0xFF43 v = .ok { s with ppu := { s.ppu with scx := v } }) ∧
    (memRead s 0xFF44 = .ok s.ppu.ly ∧ memWrite s 0xFF44 v = .ok { s with ppu := { s.ppu with ly := 0 } }) ∧
    (memRead s 0xFF45 = .ok s.ppu.lyc ∧ memWrite s 0xFF45 v = .ok { s with ppu := { s.ppu with lyc := v } }) ∧
    (memRead s 0xFF46 = .ok s.ppu.dma) ∧
    (memRead s 0xFF47 = .ok s.ppu.bgp ∧ memWrite s 0xFF47 v = .ok { s with ppu := { s.ppu with bgp := v } }) ∧
    (memRead s 0xFF48 = .ok s.ppu.obp0 ∧ memWrite s 0xFF48 v = .ok { s with ppu := { s.ppu with obp0 := v } }) ∧
    (memRead s 0xFF49 = .ok s.ppu.obp1 ∧ memWrite s 0xFF49 v = .ok { s with ppu := { s.ppu with obp1 := v } }) ∧
    (memRead s 0xFF4A = .ok s.ppu.wy ∧ memWrite s 0xFF4A v = .ok { s with ppu := { s.ppu with wy := v } }) ∧
    (memRead s 0xFF4B = .ok s.ppu.wx ∧ memWrite s 0xFF4B v = .ok { s with ppu := { s.ppu with wx := v } }) ∧
    (memRead s 0xFFFF = .ok s.ie ∧ memWrite s 0xFFFF v = .ok { s with ie := v })

/-- The Color registers (R84, R336, R338 to R343, R346 to R349): bank selects, the VRAM DMA registers (a write with bit 7
arms, one without it while armed cancels and copies nothing), the palette ports with their auto-increment. -/
def Obligations.ColorRegisters : Prop :=
  ∀ (s : State) (v : Byte), s.launch.variant = .cgb →
    let d := s.ppu.hdma
    (memRead s 0xFF4F = .ok (0xFE + BitVec.ofNat 8 s.ppu.vbk.toNat) ∧
      memWrite s 0xFF4F v = .ok { s with ppu := { s.ppu with vbk := BitVec.ofNat 1 (v.toNat % 2) } }) ∧
    (memRead s 0xFF70 = .ok (0xF8 + BitVec.ofNat 8 s.svbk.toNat) ∧
      memWrite s 0xFF70 v = .ok { s with svbk := BitVec.ofNat 3 (v.toNat % 8) }) ∧
    (memRead s 0xFF51 = .ok 0xFF ∧ memRead s 0xFF52 = .ok 0xFF ∧ memRead s 0xFF53 = .ok 0xFF ∧
      memRead s 0xFF54 = .ok 0xFF) ∧
    (memWrite s 0xFF51 v = .ok { s with ppu := { s.ppu with hdma := { d with srcHi := v } } } ∧
      memWrite s 0xFF52 v = .ok { s with ppu := { s.ppu with hdma := { d with srcLo := v } } } ∧
      memWrite s 0xFF53 v = .ok { s with ppu := { s.ppu with hdma := { d with dstHi := v } } } ∧
      memWrite s 0xFF54 v = .ok { s with ppu := { s.ppu with hdma := { d with dstLo := v } } }) ∧
    (128 ≤ v.toNat → memWrite s 0xFF55 v = .ok { s with ppu := { s.ppu with hdma := { d with
      src := pair d.srcHi d.srcLo &&& 0xFFF0, dst := pair d.dstHi d.dstLo &&& 0x1FF0,
      remaining := v.toNat - 128 + 1, active := true } } }) ∧
    (v.toNat < 128 → d.active = true →
      memWrite s 0xFF55 v = .ok { s with ppu := { s.ppu with hdma := { d with active := false } } }) ∧
    (d.remaining ≤ 128 → (d.active = true → 0 < d.remaining → memRead s 0xFF55 = .ok (BitVec.ofNat 8 (d.remaining - 1))) ∧
      (d.active = false → memRead s 0xFF55 =
        .ok (if d.remaining = 0 then 0xFF else BitVec.ofNat 8 (128 + (d.remaining - 1))))) ∧
    (memRead s 0xFF68 = .ok (s.ppu.bcps ||| 0x40) ∧ memRead s 0xFF6A = .ok (s.ppu.ocps ||| 0x40) ∧
      memWrite s 0xFF68 v = .ok { s with ppu := { s.ppu with bcps := v &&& 0xBF } } ∧
      memWrite s 0xFF6A v = .ok { s with ppu := { s.ppu with ocps := v &&& 0xBF } }) ∧
    (memRead s 0xFF69 = .ok (s.mem.bgPal.read (s.ppu.bcps.toNat % 64)) ∧
      memWrite s 0xFF69 v = .ok { s with
        mem := { s.mem with bgPal := s.mem.bgPal.write (s.ppu.bcps.toNat % 64) v },
        ppu := { s.ppu with bcps := if 128 ≤ s.ppu.bcps.toNat then BitVec.ofNat 8 (128 + (s.ppu.bcps.toNat + 1) % 64)
          else s.ppu.bcps } }) ∧
    (memRead s 0xFF6B = .ok (s.mem.objPal.read (s.ppu.ocps.toNat % 64)) ∧
      memWrite s 0xFF6B v = .ok { s with
        mem := { s.mem with objPal := s.mem.objPal.write (s.ppu.ocps.toNat % 64) v },
        ppu := { s.ppu with ocps := if 128 ≤ s.ppu.ocps.toNat then BitVec.ofNat 8 (128 + (s.ppu.ocps.toNat + 1) % 64)
          else s.ppu.ocps } })

/-- OAM DMA (R329): a write of 0 to `DMA` copies nothing; any other value `v` copies the 160 bytes that the bus gives from
page `v` on into OAM, and changes nothing else. It raises a `Fatal` exactly for page 0xFF under the fatal policy. -/
def Obligations.OamDmaCopiesPage : Prop :=
  ∀ (s : State) (v : Byte), s.mem.wf s.launch.variant = true →
    let s1 := { s with ppu := { s.ppu with dma := v } }
    (v = 0 → memWrite s 0xFF46 v = .ok s1) ∧
    (v ≠ 0 → v ≠ 0xFF ∨ s.launch.unmappedPolicy = .sentinel →
      ∃ oam, memWrite s 0xFF46 v = .ok { s1 with mem := { s1.mem with oam := oam } } ∧
        ∀ k, k < 160 → memRead s1 (BitVec.ofNat 16 (v.toNat * 256 + k)) = .ok (oam.read k)) ∧
    (v = 0xFF → s.launch.unmappedPolicy = .fatal → ∃ f, memWrite s 0xFF46 v = .error f)

/-- General VRAM DMA (R340 to R342, R345), Color only: a write of `v` below 128 to `HDMA5` while none is armed copies
`16 * (v + 1)` bytes at once into the bank of `VBK`, wrapping inside video RAM, from a source outside video RAM; every other
cell of video RAM and all other state but the chunk count is kept. -/
def Obligations.GeneralVramDmaCopiesBlock : Prop :=
  ∀ (s : State) (v : Byte), s.launch.variant = .cgb → s.mem.wf .cgb = true → v.toNat < 128 →
    s.ppu.hdma.active = false →
    let src := pair s.ppu.hdma.srcHi s.ppu.hdma.srcLo &&& 0xFFF0
    let dst := (pair s.ppu.hdma.dstHi s.ppu.hdma.dstLo &&& 0x1FF0).toNat
    let size := 16 * (v.toNat + 1)
    let cell := fun k => s.ppu.vbk.toNat * 0x2000 + (dst + k) % 0x2000
    (∀ k, k < size → canRead s (src + BitVec.ofNat 16 k) = true ∧
      ((src + BitVec.ofNat 16 k).toNat < 0x8000 ∨ 0xA000 ≤ (src + BitVec.ofNat 16 k).toNat)) →
    ∃ vram, memWrite s 0xFF55 v = .ok { s with
        mem := { s.mem with vram := vram }, ppu := { s.ppu with hdma := { s.ppu.hdma with remaining := 0 } } } ∧
      (∀ k, k < size → memRead s (src + BitVec.ofNat 16 k) = .ok (vram.read (cell k))) ∧
      (∀ j, (∀ k, k < size → j ≠ cell k) → vram.read j = s.mem.vram.read j)

/-- What an instruction leaves alone in memory. A form that stores nothing changes nothing outside the CPU, so every address
reads as before. A form that stores one byte, at the address `storeAddr` computes as its meaning does, and one that
stores two (`storeAddr2`), to addresses with no further write effect (`isLocal`, R99): every address of any other
location reads as before. -/
def Obligations.InstructionMemoryFrame : Prop :=
  ∀ (i : Instr) (s t : State), exec i s = .next t →
    (storeAddr s i.form = none → storeAddr2 s i.form = none →
      t = { s with cpu := t.cpu, fault := t.fault } ∧ ∀ b, memRead t b = memRead s b) ∧
    (∀ ea, storeAddr s i.form = some ea → isLocal s ea = true →
      ∀ b, locate s b ≠ locate s ea → memRead t b = memRead s b) ∧
    (∀ low, storeAddr2 s i.form = some low → isLocal s low = true → isLocal s (low + 1) = true →
      ∀ b, locate s b ≠ locate s low → locate s b ≠ locate s (low + 1) → memRead t b = memRead s b)

/-! ## The timer -/

/-- The timer's advance in closed form (R511, R512, R513): with `n` the whole periods in the accumulated cycles, `DIV` counts
`n` modulo 256; while `TAC[2]` is set `TIMA` counts up, from `TMA` again at each overflow, and `IF[2]` is set if and
only if it overflowed; stopped, neither `TIMA` nor its accumulator changes. Nothing else changes. -/
def Obligations.TimerAdvanceClosedForm : Prop :=
  ∀ (s : State) (c : Nat),
    let dp := if s.launch.doubleSpeed then 128 else 256
    let tp := (match s.timer.tac.toNat % 4 with
      | 0 => 1024
      | 1 => 16
      | 2 => 64
      | _ => 256) / (if s.launch.doubleSpeed then 2 else 1)
    let nd := (s.timer.divAcc + c) / dp
    let nt := (s.timer.timaAcc + c) / tp
    let raw := s.timer.tima.toNat + nt
    let running := s.timer.tac.getLsbD 2
    timerAdvance c s = { s with
      ifReg := if running ∧ 256 ≤ raw then s.ifReg ||| 4 else s.ifReg,
      timer := { s.timer with
        div := BitVec.ofNat 8 (s.timer.div.toNat + nd),
        divAcc := (s.timer.divAcc + c) % dp,
        tima := if running then
            (if raw < 256 then BitVec.ofNat 8 raw
              else BitVec.ofNat 8 (s.timer.tma.toNat + (raw - 256) % (256 - s.timer.tma.toNat)))
          else s.timer.tima,
        timaAcc := if running then (s.timer.timaAcc + c) % tp else s.timer.timaAcc } }

/-! ## The PPU -/

/-- `ppu_advance` below the threshold of the mode, and over one threshold (R381): into mode 3, rendering the line when the
display is on (R382); into mode 0, with its request and its DMA chunk (R383, R344); out of mode 0, to the next line or into
V-blank with its two requests and the frame (R384, R389); a V-blank line, wrapping from 153 to line 0 in mode 2 (R385).
The coincidence flag is recomputed at each (R387, R396). Everything not named is kept. -/
def Obligations.PpuTransitions : Prop :=
  ∀ (s : State) (c : Nat),
    let n := s.ppu.cycles + c
    let p := s.ppu
    (n < modeLength (ppuMode s) → ppuAdvance c s = .ok { s with ppu := { p with cycles := n } }) ∧
    (ppuMode s = 2 → 80 ≤ n → n < 80 + 172 → ppuAdvance c s = .ok { s with ppu := { p with
      cycles := n - 80, stat := statWith p.stat 3 (p.ly == p.lyc),
      framebuffer := if p.lcdc.getLsbD 7 then p.framebuffer.setIfInBounds p.ly.toNat (renderedRow s p.ly.toNat)
        else p.framebuffer } }) ∧
    (ppuMode s = 3 → 172 ≤ n → n < 172 + 204 →
      let s1 := { s with
        ifReg := ppuRequests s.ifReg false (p.stat.getLsbD 3),
        ppu := { p with cycles := n - 172, stat := statWith p.stat 0 (p.ly == p.lyc) } }
      (s.launch.variant = .dmg ∨ p.hdma.active = false → ppuAdvance c s = .ok s1) ∧
      (s.launch.variant = .cgb → p.hdma.active = true → canReadBlock s p.hdma.src 16 = true →
        ∃ u, copyChunk p.hdma.src p.hdma.dst s1 = .ok u ∧
          ppuAdvance c s = .ok { u with ppu := { u.ppu with hdma := { p.hdma with
            src := p.hdma.src + 16, dst := BitVec.ofNat 16 ((p.hdma.dst.toNat + 16) % 0x2000),
            remaining := p.hdma.remaining - 1, active := decide (p.hdma.remaining - 1 ≠ 0) } } }) ∧
      (s.launch.variant = .cgb → p.hdma.active = true → canReadBlock s p.hdma.src 16 = false →
        ∃ f, ppuAdvance c s = .error f)) ∧
    (ppuMode s = 0 → 204 ≤ n → n < 204 + 80 →
      (p.ly = 143 → ppuAdvance c s = .ok { s with
        ifReg := ppuRequests s.ifReg true (p.stat.getLsbD 4 || (p.stat.getLsbD 6 && p.lyc == 144)),
        ppu := { p with
          cycles := n - 204, ly := 144, stat := statWith p.stat 1 (p.lyc == 144),
          framesOut := p.framesOut ++ [p.framebuffer] } }) ∧
      (p.ly ≠ 143 → ppuAdvance c s = .ok { s with
        ifReg := ppuRequests s.ifReg false (p.stat.getLsbD 5 || (p.stat.getLsbD 6 && p.ly + 1 == p.lyc)),
        ppu := { p with cycles := n - 204, ly := p.ly + 1, stat := statWith p.stat 2 (p.ly + 1 == p.lyc) } })) ∧
    (ppuMode s = 1 → 456 ≤ n → n < 456 + 80 →
      (p.ly = 153 → ppuAdvance c s = .ok { s with
        ifReg := ppuRequests s.ifReg false (p.stat.getLsbD 5 || (p.stat.getLsbD 6 && p.lyc == 0)),
        ppu := { p with cycles := n - 456, ly := 0, stat := statWith p.stat 2 (p.lyc == 0) } }) ∧
      (p.ly ≠ 153 → ppuAdvance c s = .ok { s with
        ifReg := ppuRequests s.ifReg false (p.stat.getLsbD 6 && p.ly + 1 == p.lyc),
        ppu := { p with cycles := n - 456, ly := p.ly + 1, stat := statWith p.stat 1 (p.ly + 1 == p.lyc) } }))

/-- The raster position of R391, step by step: from a state that stands where the table puts it at `T` cycles, a step whose CPU
part leaves `LY` alone and that raises nothing ends where the table puts it at `T` plus the step's cost, the delivered
frames counted with it. The reset state stands at `T = 0`. -/
def Obligations.RasterFollowsClosedForm : Prop :=
  RasterAt State.reset 0 ∧
  ∀ (s t u : State) (T : Nat), RasterAt s T → s.fault = none → cpuStep (pollExt s) = .next u → u.ppu.ly = s.ppu.ly →
    step s = .next t → t.fault = none → RasterAt t (T + u.cpu.cycles)

/-- A frame is delivered exactly at entry to mode 1, and it is the current frame buffer (R389; `DeliversAtVblank`): so it is at
every transition of the mode machine, and over every step from a state with the invariant that crosses at most one threshold.
That is every step but an interrupt service whose parameter `INT_SERVICE_CYCLES` (R8, open by D7; 20 by default) is 80 or more,
which can make several transitions. -/
def Obligations.FrameDeliveredAtVblankEntry : Prop :=
  (∀ s t : State, leaveMode (ppuMode s) s = .ok t → DeliversAtVblank s t) ∧
  (∀ s t : State, Inv s → (interruptDue (pollExt s) = true → s.launch.intServiceCycles < 80) → step s = .next t →
    DeliversAtVblank s t)

/-- The renderer is a function of its inputs (R450) and writes the pixels of row `LY` and no other state (R420, R421). -/
def Obligations.RendererIsPureAndWritesOneRow : Prop :=
  (∀ (s t : State), sameRenderInputs s t → ∀ x ly, pixelAt s x ly = pixelAt t x ly) ∧
  (∀ (s : State) (y x : Nat) (hy : y < 144) (hx : x < 160),
    (((renderLine s).ppu.framebuffer[y]'hy)[x]'hx) =
      if y = s.ppu.ly.toNat then pixelAt s x y else ((s.ppu.framebuffer[y]'hy)[x]'hx)) ∧
  (∀ s : State, renderLine s = { s with ppu := { s.ppu with framebuffer := (renderLine s).ppu.framebuffer } })

/-- A pixel is composed as R420, R429, R430, R433 to R437, R439 and R441 say: blank with the background off; the window where it
covers, else the scrolled background; a sprite's colour index where it covers, with its flips, height and bank; over the layer the lowest-numbered sprite that covers with a colour index not 0, unless its priority
flag is set and the layer below has an index not 0. -/
def Obligations.PixelComposition : Prop :=
  ∀ (s : State) (x ly : Nat), x < 160 → ly < 144 →
    let p := s.ppu
    let covered := p.lcdc.getLsbD 5 = true ∧ p.wy.toNat ≤ ly ∧ p.wx.toNat ≤ x + 7
    let opaque_ := fun n => ∃ ci, spritePixel s n x ly = some ci ∧ ci ≠ 0
    (p.lcdc.getLsbD 0 = false → layer1 s x ly = (0, blankPixel s)) ∧
    (p.lcdc.getLsbD 0 = true → covered →
      let m := mapPixel s (if p.lcdc.getLsbD 6 then 0x1C00 else 0x1800) (x + 7 - p.wx.toNat) (ly - p.wy.toNat)
      layer1 s x ly = (m.1, bgColour s m.1 m.2)) ∧
    (p.lcdc.getLsbD 0 = true → ¬covered →
      let m := mapPixel s (if p.lcdc.getLsbD 3 then 0x1C00 else 0x1800) ((x + p.scx.toNat) % 256) ((ly + p.scy.toNat) % 256)
      layer1 s x ly = (m.1, bgColour s m.1 m.2)) ∧
    (∀ n,
      let y := (s.mem.oam.read (4 * n)).toNat
      let xs := (s.mem.oam.read (4 * n + 1)).toNat
      let tile := (s.mem.oam.read (4 * n + 2)).toNat
      let f := s.mem.oam.read (4 * n + 3)
      let h : Nat := if p.lcdc.getLsbD 2 then 16 else 8
      spritePixel s n x ly =
        if (y : Int) - 16 ≤ ly ∧ (ly : Int) < y - 16 + h ∧ (xs : Int) - 8 ≤ x ∧ x < xs then
          some (tileCi s (if s.launch.variant = .cgb ∧ f.getLsbD 3 = true then 1 else 0)
            (16 * (if p.lcdc.getLsbD 2 then tile - tile % 2 else tile))
            (if f.getLsbD 5 then 7 - (x + 8 - xs) else x + 8 - xs)
            (if f.getLsbD 6 then h - 1 - (ly + 16 - y) else ly + 16 - y))
        else none) ∧
    (p.lcdc.getLsbD 1 = false ∨ (∀ n, n < 40 → ¬opaque_ n) → pixelAt s x ly = (layer1 s x ly).2) ∧
    (∀ n ci, p.lcdc.getLsbD 1 = true → n < 40 → spritePixel s n x ly = some ci → ci ≠ 0 →
      (∀ k, k < n → ¬opaque_ k) →
      pixelAt s x ly =
        if (s.mem.oam.read (4 * n + 3)).getLsbD 7 = false ∨ (layer1 s x ly).1 = 0 then
          objColour s ci (s.mem.oam.read (4 * n + 3))
        else (layer1 s x ly).2)

/-- Tiles and colours: the two planes of a tile row (R422), the signed tile scheme as a two's-complement index from 0x1000
(R423), the flips and bank of a map entry (R425, R426), the shades of the monochrome palettes (R445) and the 15-bit colours
of the Color palettes, low byte first (R446), with the default conversion of R448 (log 13). -/
def Obligations.TilesAndColours : Prop :=
  (∀ (s : State) (bank off c r : Nat), c < 8 →
    tileCi s bank off c r =
      2 * ((s.mem.vram.read (bank * 0x2000 + (off + 2 * r + 1))).toNat / 2 ^ (7 - c) % 2) +
        (s.mem.vram.read (bank * 0x2000 + (off + 2 * r))).toNat / 2 ^ (7 - c) % 2) ∧
  (∀ (lcdc t : Byte), (tileOffset lcdc t.toNat : Int) =
    if lcdc.getLsbD 4 then 16 * (t.toNat : Int) else 0x1000 + 16 * t.toInt) ∧
  (∀ (s : State) (base px py : Nat),
    let e := base + 32 * (py / 8) + px / 8
    let attr := if s.launch.variant = .cgb then s.mem.vram.read (0x2000 + e) else 0
    mapPixel s base px py =
      (tileCi s (if attr.getLsbD 3 then 1 else 0) (tileOffset s.ppu.lcdc (s.mem.vram.read e).toNat)
        (if attr.getLsbD 5 then 7 - px % 8 else px % 8) (if attr.getLsbD 6 then 7 - py % 8 else py % 8), attr)) ∧
  (∀ (s : State) (ci : Nat) (attr : Byte), s.launch.variant = .dmg →
    bgColour s ci attr = monoPixel s.launch ((s.ppu.bgp >>> (2 * ci)).toNat % 4) ∧
    objColour s ci attr =
      monoPixel s.launch (((if attr.getLsbD 4 then s.ppu.obp1 else s.ppu.obp0) >>> (2 * ci)).toNat % 4)) ∧
  (∀ (s : State) (ci : Nat) (attr : Byte), s.launch.variant = .cgb →
    (let i := 8 * (attr &&& 7).toNat + 2 * ci
     bgColour s ci attr =
      rgb15ToPixel s.launch (((s.mem.bgPal.read (i + 1)).toNat * 256 + (s.mem.bgPal.read i).toNat) % 0x8000) ∧
     objColour s ci attr =
      rgb15ToPixel s.launch (((s.mem.objPal.read (i + 1)).toNat * 256 + (s.mem.objPal.read i).toNat) % 0x8000))) ∧
  (∀ (l : Launch) (r g b : Nat), r < 32 → g < 32 → b < 32 → l.rgbOverrides = [] →
    rgb15ToPixel l (r + 32 * g + 1024 * b) =
      BitVec.ofNat 32 (0xFF000000 + ((r * 8 + r / 4) * 65536 + (g * 8 + g / 4) * 256 + (b * 8 + b / 4))))
end

