-- ==== Sys2Proof/Laws/Bits.lean ====
section
/-! SUPPORT. The laws of the byte and word helpers. -/

namespace Sys2Proof.Machine

@[simp] theorem hi_pair (h l : Byte) : hi (pair h l) = h := by
  unfold hi pair; ext i hi
  rw [BitVec.getElem_extractLsb', BitVec.getLsbD_append, if_neg (by omega), show 8 + i - 8 = i by omega,
    BitVec.getLsbD_eq_getElem hi]

@[simp] theorem lo_pair (h l : Byte) : lo (pair h l) = l := by
  unfold lo pair; ext i hi
  rw [BitVec.getElem_extractLsb', BitVec.getLsbD_append, if_pos (by omega), Nat.zero_add, BitVec.getLsbD_eq_getElem hi]

@[simp] theorem pair_hi_lo (w : Word) : pair (hi w) (lo w) = w := by
  unfold lo hi pair; ext i h
  rw [BitVec.getElem_append]
  split
  · rw [BitVec.getElem_extractLsb', Nat.zero_add, BitVec.getLsbD_eq_getElem h]
  · rw [BitVec.getElem_extractLsb', show 8 + (i - 8) = i by omega, BitVec.getLsbD_eq_getElem h]

theorem pair_toNat (h l : Byte) : (pair h l).toNat = h.toNat * 256 + l.toNat := by
  unfold pair
  rw [BitVec.toNat_append, Nat.shiftLeft_eq, Nat.mul_comm, ← Nat.two_pow_add_eq_or_of_lt l.isLt]

/-- A low nibble, as a remainder. -/
theorem byte_nibble (b : Byte) : (b &&& 0xF).toNat = b.toNat % 16 := by
  rw [BitVec.toNat_and]; exact Nat.and_two_pow_sub_one_eq_mod _ 4

theorem word_nibble (w : Word) : (w &&& 0x000F).toNat = w.toNat % 16 := by
  rw [BitVec.toNat_and]; exact Nat.and_two_pow_sub_one_eq_mod _ 4

theorem word_lowByte (w : Word) : (w &&& 0x00FF).toNat = w.toNat % 256 := by
  rw [BitVec.toNat_and]; exact Nat.and_two_pow_sub_one_eq_mod _ 8

theorem word_low12 (w : Word) : (w &&& 0x0FFF).toNat = w.toNat % 4096 := by
  rw [BitVec.toNat_and]; exact Nat.and_two_pow_sub_one_eq_mod _ 12

/-- Two bytes are equal when their values are. -/
theorem byte_eq_iff (a b : Byte) : a = b ↔ a.toNat = b.toNat := BitVec.toNat_inj.symm

theorem beq_zero_toNat (a : Byte) : (a == 0) = decide (a.toNat = 0) := by
  rw [Bool.eq_iff_iff]; simp [byte_eq_iff]

end Sys2Proof.Machine
end

