-- ==== Sys2Proof/Laws/State.lean ====
section
/-! SUPPORT. One lemma per field per update of State, so that no proof unfolds a record update. -/

namespace Sys2Proof.Machine

@[simp] theorem setBC_launch (s : State) (w : Word) : (setBC s w).launch = s.launch := rfl
@[simp] theorem setBC_cart (s : State) (w : Word) : (setBC s w).cart = s.cart := rfl
@[simp] theorem setBC_ext (s : State) (w : Word) : (setBC s w).ext = s.ext := rfl
@[simp] theorem setBC_ifReg (s : State) (w : Word) : (setBC s w).ifReg = s.ifReg := rfl
@[simp] theorem setBC_ie (s : State) (w : Word) : (setBC s w).ie = s.ie := rfl
@[simp] theorem setBC_timer (s : State) (w : Word) : (setBC s w).timer = s.timer := rfl
@[simp] theorem setBC_ppu (s : State) (w : Word) : (setBC s w).ppu = s.ppu := rfl
@[simp] theorem setBC_svbk (s : State) (w : Word) : (setBC s w).svbk = s.svbk := rfl
@[simp] theorem setBC_mem (s : State) (w : Word) : (setBC s w).mem = s.mem := rfl
@[simp] theorem setBC_fault (s : State) (w : Word) : (setBC s w).fault = s.fault := rfl
@[simp] theorem setBC_cpu_a (s : State) (w : Word) : (setBC s w).cpu.a = s.cpu.a := rfl
@[simp] theorem setBC_cpu_f (s : State) (w : Word) : (setBC s w).cpu.f = s.cpu.f := rfl
@[simp] theorem setBC_cpu_b (s : State) (w : Word) : (setBC s w).cpu.b = hi w := rfl
@[simp] theorem setBC_cpu_c (s : State) (w : Word) : (setBC s w).cpu.c = lo w := rfl
@[simp] theorem setBC_cpu_d (s : State) (w : Word) : (setBC s w).cpu.d = s.cpu.d := rfl
@[simp] theorem setBC_cpu_e (s : State) (w : Word) : (setBC s w).cpu.e = s.cpu.e := rfl
@[simp] theorem setBC_cpu_h (s : State) (w : Word) : (setBC s w).cpu.h = s.cpu.h := rfl
@[simp] theorem setBC_cpu_l (s : State) (w : Word) : (setBC s w).cpu.l = s.cpu.l := rfl
@[simp] theorem setBC_cpu_sp (s : State) (w : Word) : (setBC s w).cpu.sp = s.cpu.sp := rfl
@[simp] theorem setBC_cpu_pc (s : State) (w : Word) : (setBC s w).cpu.pc = s.cpu.pc := rfl
@[simp] theorem setBC_cpu_ime (s : State) (w : Word) : (setBC s w).cpu.ime = s.cpu.ime := rfl
@[simp] theorem setBC_cpu_halted (s : State) (w : Word) : (setBC s w).cpu.halted = s.cpu.halted := rfl
@[simp] theorem setBC_cpu_cycles (s : State) (w : Word) : (setBC s w).cpu.cycles = s.cpu.cycles := rfl

@[simp] theorem setDE_launch (s : State) (w : Word) : (setDE s w).launch = s.launch := rfl
@[simp] theorem setDE_cart (s : State) (w : Word) : (setDE s w).cart = s.cart := rfl
@[simp] theorem setDE_ext (s : State) (w : Word) : (setDE s w).ext = s.ext := rfl
@[simp] theorem setDE_ifReg (s : State) (w : Word) : (setDE s w).ifReg = s.ifReg := rfl
@[simp] theorem setDE_ie (s : State) (w : Word) : (setDE s w).ie = s.ie := rfl
@[simp] theorem setDE_timer (s : State) (w : Word) : (setDE s w).timer = s.timer := rfl
@[simp] theorem setDE_ppu (s : State) (w : Word) : (setDE s w).ppu = s.ppu := rfl
@[simp] theorem setDE_svbk (s : State) (w : Word) : (setDE s w).svbk = s.svbk := rfl
@[simp] theorem setDE_mem (s : State) (w : Word) : (setDE s w).mem = s.mem := rfl
@[simp] theorem setDE_fault (s : State) (w : Word) : (setDE s w).fault = s.fault := rfl
@[simp] theorem setDE_cpu_a (s : State) (w : Word) : (setDE s w).cpu.a = s.cpu.a := rfl
@[simp] theorem setDE_cpu_f (s : State) (w : Word) : (setDE s w).cpu.f = s.cpu.f := rfl
@[simp] theorem setDE_cpu_b (s : State) (w : Word) : (setDE s w).cpu.b = s.cpu.b := rfl
@[simp] theorem setDE_cpu_c (s : State) (w : Word) : (setDE s w).cpu.c = s.cpu.c := rfl
@[simp] theorem setDE_cpu_d (s : State) (w : Word) : (setDE s w).cpu.d = hi w := rfl
@[simp] theorem setDE_cpu_e (s : State) (w : Word) : (setDE s w).cpu.e = lo w := rfl
@[simp] theorem setDE_cpu_h (s : State) (w : Word) : (setDE s w).cpu.h = s.cpu.h := rfl
@[simp] theorem setDE_cpu_l (s : State) (w : Word) : (setDE s w).cpu.l = s.cpu.l := rfl
@[simp] theorem setDE_cpu_sp (s : State) (w : Word) : (setDE s w).cpu.sp = s.cpu.sp := rfl
@[simp] theorem setDE_cpu_pc (s : State) (w : Word) : (setDE s w).cpu.pc = s.cpu.pc := rfl
@[simp] theorem setDE_cpu_ime (s : State) (w : Word) : (setDE s w).cpu.ime = s.cpu.ime := rfl
@[simp] theorem setDE_cpu_halted (s : State) (w : Word) : (setDE s w).cpu.halted = s.cpu.halted := rfl
@[simp] theorem setDE_cpu_cycles (s : State) (w : Word) : (setDE s w).cpu.cycles = s.cpu.cycles := rfl

@[simp] theorem setHL_launch (s : State) (w : Word) : (setHL s w).launch = s.launch := rfl
@[simp] theorem setHL_cart (s : State) (w : Word) : (setHL s w).cart = s.cart := rfl
@[simp] theorem setHL_ext (s : State) (w : Word) : (setHL s w).ext = s.ext := rfl
@[simp] theorem setHL_ifReg (s : State) (w : Word) : (setHL s w).ifReg = s.ifReg := rfl
@[simp] theorem setHL_ie (s : State) (w : Word) : (setHL s w).ie = s.ie := rfl
@[simp] theorem setHL_timer (s : State) (w : Word) : (setHL s w).timer = s.timer := rfl
@[simp] theorem setHL_ppu (s : State) (w : Word) : (setHL s w).ppu = s.ppu := rfl
@[simp] theorem setHL_svbk (s : State) (w : Word) : (setHL s w).svbk = s.svbk := rfl
@[simp] theorem setHL_mem (s : State) (w : Word) : (setHL s w).mem = s.mem := rfl
@[simp] theorem setHL_fault (s : State) (w : Word) : (setHL s w).fault = s.fault := rfl
@[simp] theorem setHL_cpu_a (s : State) (w : Word) : (setHL s w).cpu.a = s.cpu.a := rfl
@[simp] theorem setHL_cpu_f (s : State) (w : Word) : (setHL s w).cpu.f = s.cpu.f := rfl
@[simp] theorem setHL_cpu_b (s : State) (w : Word) : (setHL s w).cpu.b = s.cpu.b := rfl
@[simp] theorem setHL_cpu_c (s : State) (w : Word) : (setHL s w).cpu.c = s.cpu.c := rfl
@[simp] theorem setHL_cpu_d (s : State) (w : Word) : (setHL s w).cpu.d = s.cpu.d := rfl
@[simp] theorem setHL_cpu_e (s : State) (w : Word) : (setHL s w).cpu.e = s.cpu.e := rfl
@[simp] theorem setHL_cpu_h (s : State) (w : Word) : (setHL s w).cpu.h = hi w := rfl
@[simp] theorem setHL_cpu_l (s : State) (w : Word) : (setHL s w).cpu.l = lo w := rfl
@[simp] theorem setHL_cpu_sp (s : State) (w : Word) : (setHL s w).cpu.sp = s.cpu.sp := rfl
@[simp] theorem setHL_cpu_pc (s : State) (w : Word) : (setHL s w).cpu.pc = s.cpu.pc := rfl
@[simp] theorem setHL_cpu_ime (s : State) (w : Word) : (setHL s w).cpu.ime = s.cpu.ime := rfl
@[simp] theorem setHL_cpu_halted (s : State) (w : Word) : (setHL s w).cpu.halted = s.cpu.halted := rfl
@[simp] theorem setHL_cpu_cycles (s : State) (w : Word) : (setHL s w).cpu.cycles = s.cpu.cycles := rfl

@[simp] theorem setAF_launch (s : State) (w : Word) : (setAF s w).launch = s.launch := rfl
@[simp] theorem setAF_cart (s : State) (w : Word) : (setAF s w).cart = s.cart := rfl
@[simp] theorem setAF_ext (s : State) (w : Word) : (setAF s w).ext = s.ext := rfl
@[simp] theorem setAF_ifReg (s : State) (w : Word) : (setAF s w).ifReg = s.ifReg := rfl
@[simp] theorem setAF_ie (s : State) (w : Word) : (setAF s w).ie = s.ie := rfl
@[simp] theorem setAF_timer (s : State) (w : Word) : (setAF s w).timer = s.timer := rfl
@[simp] theorem setAF_ppu (s : State) (w : Word) : (setAF s w).ppu = s.ppu := rfl
@[simp] theorem setAF_svbk (s : State) (w : Word) : (setAF s w).svbk = s.svbk := rfl
@[simp] theorem setAF_mem (s : State) (w : Word) : (setAF s w).mem = s.mem := rfl
@[simp] theorem setAF_fault (s : State) (w : Word) : (setAF s w).fault = s.fault := rfl
@[simp] theorem setAF_cpu_a (s : State) (w : Word) : (setAF s w).cpu.a = hi w := rfl
@[simp] theorem setAF_cpu_f (s : State) (w : Word) : (setAF s w).cpu.f = lo w &&& 0xF0 := rfl
@[simp] theorem setAF_cpu_b (s : State) (w : Word) : (setAF s w).cpu.b = s.cpu.b := rfl
@[simp] theorem setAF_cpu_c (s : State) (w : Word) : (setAF s w).cpu.c = s.cpu.c := rfl
@[simp] theorem setAF_cpu_d (s : State) (w : Word) : (setAF s w).cpu.d = s.cpu.d := rfl
@[simp] theorem setAF_cpu_e (s : State) (w : Word) : (setAF s w).cpu.e = s.cpu.e := rfl
@[simp] theorem setAF_cpu_h (s : State) (w : Word) : (setAF s w).cpu.h = s.cpu.h := rfl
@[simp] theorem setAF_cpu_l (s : State) (w : Word) : (setAF s w).cpu.l = s.cpu.l := rfl
@[simp] theorem setAF_cpu_sp (s : State) (w : Word) : (setAF s w).cpu.sp = s.cpu.sp := rfl
@[simp] theorem setAF_cpu_pc (s : State) (w : Word) : (setAF s w).cpu.pc = s.cpu.pc := rfl
@[simp] theorem setAF_cpu_ime (s : State) (w : Word) : (setAF s w).cpu.ime = s.cpu.ime := rfl
@[simp] theorem setAF_cpu_halted (s : State) (w : Word) : (setAF s w).cpu.halted = s.cpu.halted := rfl
@[simp] theorem setAF_cpu_cycles (s : State) (w : Word) : (setAF s w).cpu.cycles = s.cpu.cycles := rfl

@[simp] theorem setSP_launch (s : State) (w : Word) : (setSP s w).launch = s.launch := rfl
@[simp] theorem setSP_cart (s : State) (w : Word) : (setSP s w).cart = s.cart := rfl
@[simp] theorem setSP_ext (s : State) (w : Word) : (setSP s w).ext = s.ext := rfl
@[simp] theorem setSP_ifReg (s : State) (w : Word) : (setSP s w).ifReg = s.ifReg := rfl
@[simp] theorem setSP_ie (s : State) (w : Word) : (setSP s w).ie = s.ie := rfl
@[simp] theorem setSP_timer (s : State) (w : Word) : (setSP s w).timer = s.timer := rfl
@[simp] theorem setSP_ppu (s : State) (w : Word) : (setSP s w).ppu = s.ppu := rfl
@[simp] theorem setSP_svbk (s : State) (w : Word) : (setSP s w).svbk = s.svbk := rfl
@[simp] theorem setSP_mem (s : State) (w : Word) : (setSP s w).mem = s.mem := rfl
@[simp] theorem setSP_fault (s : State) (w : Word) : (setSP s w).fault = s.fault := rfl
@[simp] theorem setSP_cpu_a (s : State) (w : Word) : (setSP s w).cpu.a = s.cpu.a := rfl
@[simp] theorem setSP_cpu_f (s : State) (w : Word) : (setSP s w).cpu.f = s.cpu.f := rfl
@[simp] theorem setSP_cpu_b (s : State) (w : Word) : (setSP s w).cpu.b = s.cpu.b := rfl
@[simp] theorem setSP_cpu_c (s : State) (w : Word) : (setSP s w).cpu.c = s.cpu.c := rfl
@[simp] theorem setSP_cpu_d (s : State) (w : Word) : (setSP s w).cpu.d = s.cpu.d := rfl
@[simp] theorem setSP_cpu_e (s : State) (w : Word) : (setSP s w).cpu.e = s.cpu.e := rfl
@[simp] theorem setSP_cpu_h (s : State) (w : Word) : (setSP s w).cpu.h = s.cpu.h := rfl
@[simp] theorem setSP_cpu_l (s : State) (w : Word) : (setSP s w).cpu.l = s.cpu.l := rfl
@[simp] theorem setSP_cpu_sp (s : State) (w : Word) : (setSP s w).cpu.sp = w := rfl
@[simp] theorem setSP_cpu_pc (s : State) (w : Word) : (setSP s w).cpu.pc = s.cpu.pc := rfl
@[simp] theorem setSP_cpu_ime (s : State) (w : Word) : (setSP s w).cpu.ime = s.cpu.ime := rfl
@[simp] theorem setSP_cpu_halted (s : State) (w : Word) : (setSP s w).cpu.halted = s.cpu.halted := rfl
@[simp] theorem setSP_cpu_cycles (s : State) (w : Word) : (setSP s w).cpu.cycles = s.cpu.cycles := rfl

@[simp] theorem setF_launch (s : State) (f : Byte) : (setF s f).launch = s.launch := rfl
@[simp] theorem setF_cart (s : State) (f : Byte) : (setF s f).cart = s.cart := rfl
@[simp] theorem setF_ext (s : State) (f : Byte) : (setF s f).ext = s.ext := rfl
@[simp] theorem setF_ifReg (s : State) (f : Byte) : (setF s f).ifReg = s.ifReg := rfl
@[simp] theorem setF_ie (s : State) (f : Byte) : (setF s f).ie = s.ie := rfl
@[simp] theorem setF_timer (s : State) (f : Byte) : (setF s f).timer = s.timer := rfl
@[simp] theorem setF_ppu (s : State) (f : Byte) : (setF s f).ppu = s.ppu := rfl
@[simp] theorem setF_svbk (s : State) (f : Byte) : (setF s f).svbk = s.svbk := rfl
@[simp] theorem setF_mem (s : State) (f : Byte) : (setF s f).mem = s.mem := rfl
@[simp] theorem setF_fault (s : State) (f : Byte) : (setF s f).fault = s.fault := rfl
@[simp] theorem setF_cpu_a (s : State) (f : Byte) : (setF s f).cpu.a = s.cpu.a := rfl
@[simp] theorem setF_cpu_f (s : State) (f : Byte) : (setF s f).cpu.f = f := rfl
@[simp] theorem setF_cpu_b (s : State) (f : Byte) : (setF s f).cpu.b = s.cpu.b := rfl
@[simp] theorem setF_cpu_c (s : State) (f : Byte) : (setF s f).cpu.c = s.cpu.c := rfl
@[simp] theorem setF_cpu_d (s : State) (f : Byte) : (setF s f).cpu.d = s.cpu.d := rfl
@[simp] theorem setF_cpu_e (s : State) (f : Byte) : (setF s f).cpu.e = s.cpu.e := rfl
@[simp] theorem setF_cpu_h (s : State) (f : Byte) : (setF s f).cpu.h = s.cpu.h := rfl
@[simp] theorem setF_cpu_l (s : State) (f : Byte) : (setF s f).cpu.l = s.cpu.l := rfl
@[simp] theorem setF_cpu_sp (s : State) (f : Byte) : (setF s f).cpu.sp = s.cpu.sp := rfl
@[simp] theorem setF_cpu_pc (s : State) (f : Byte) : (setF s f).cpu.pc = s.cpu.pc := rfl
@[simp] theorem setF_cpu_ime (s : State) (f : Byte) : (setF s f).cpu.ime = s.cpu.ime := rfl
@[simp] theorem setF_cpu_halted (s : State) (f : Byte) : (setF s f).cpu.halted = s.cpu.halted := rfl
@[simp] theorem setF_cpu_cycles (s : State) (f : Byte) : (setF s f).cpu.cycles = s.cpu.cycles := rfl

@[simp] theorem advance_launch (n : Word) (k : Nat) (s : State) : (advance n k s).launch = s.launch := rfl
@[simp] theorem advance_cart (n : Word) (k : Nat) (s : State) : (advance n k s).cart = s.cart := rfl
@[simp] theorem advance_ext (n : Word) (k : Nat) (s : State) : (advance n k s).ext = s.ext := rfl
@[simp] theorem advance_ifReg (n : Word) (k : Nat) (s : State) : (advance n k s).ifReg = s.ifReg := rfl
@[simp] theorem advance_ie (n : Word) (k : Nat) (s : State) : (advance n k s).ie = s.ie := rfl
@[simp] theorem advance_timer (n : Word) (k : Nat) (s : State) : (advance n k s).timer = s.timer := rfl
@[simp] theorem advance_ppu (n : Word) (k : Nat) (s : State) : (advance n k s).ppu = s.ppu := rfl
@[simp] theorem advance_svbk (n : Word) (k : Nat) (s : State) : (advance n k s).svbk = s.svbk := rfl
@[simp] theorem advance_mem (n : Word) (k : Nat) (s : State) : (advance n k s).mem = s.mem := rfl
@[simp] theorem advance_fault (n : Word) (k : Nat) (s : State) : (advance n k s).fault = s.fault := rfl
@[simp] theorem advance_cpu_a (n : Word) (k : Nat) (s : State) : (advance n k s).cpu.a = s.cpu.a := rfl
@[simp] theorem advance_cpu_f (n : Word) (k : Nat) (s : State) : (advance n k s).cpu.f = s.cpu.f := rfl
@[simp] theorem advance_cpu_b (n : Word) (k : Nat) (s : State) : (advance n k s).cpu.b = s.cpu.b := rfl
@[simp] theorem advance_cpu_c (n : Word) (k : Nat) (s : State) : (advance n k s).cpu.c = s.cpu.c := rfl
@[simp] theorem advance_cpu_d (n : Word) (k : Nat) (s : State) : (advance n k s).cpu.d = s.cpu.d := rfl
@[simp] theorem advance_cpu_e (n : Word) (k : Nat) (s : State) : (advance n k s).cpu.e = s.cpu.e := rfl
@[simp] theorem advance_cpu_h (n : Word) (k : Nat) (s : State) : (advance n k s).cpu.h = s.cpu.h := rfl
@[simp] theorem advance_cpu_l (n : Word) (k : Nat) (s : State) : (advance n k s).cpu.l = s.cpu.l := rfl
@[simp] theorem advance_cpu_sp (n : Word) (k : Nat) (s : State) : (advance n k s).cpu.sp = s.cpu.sp := rfl
@[simp] theorem advance_cpu_pc (n : Word) (k : Nat) (s : State) : (advance n k s).cpu.pc = s.cpu.pc + n := rfl
@[simp] theorem advance_cpu_ime (n : Word) (k : Nat) (s : State) : (advance n k s).cpu.ime = s.cpu.ime := rfl
@[simp] theorem advance_cpu_halted (n : Word) (k : Nat) (s : State) : (advance n k s).cpu.halted = s.cpu.halted := rfl
@[simp] theorem advance_cpu_cycles (n : Word) (k : Nat) (s : State) : (advance n k s).cpu.cycles = k := rfl

@[simp] theorem jumpTo_launch (w : Word) (k : Nat) (s : State) : (jumpTo w k s).launch = s.launch := rfl
@[simp] theorem jumpTo_cart (w : Word) (k : Nat) (s : State) : (jumpTo w k s).cart = s.cart := rfl
@[simp] theorem jumpTo_ext (w : Word) (k : Nat) (s : State) : (jumpTo w k s).ext = s.ext := rfl
@[simp] theorem jumpTo_ifReg (w : Word) (k : Nat) (s : State) : (jumpTo w k s).ifReg = s.ifReg := rfl
@[simp] theorem jumpTo_ie (w : Word) (k : Nat) (s : State) : (jumpTo w k s).ie = s.ie := rfl
@[simp] theorem jumpTo_timer (w : Word) (k : Nat) (s : State) : (jumpTo w k s).timer = s.timer := rfl
@[simp] theorem jumpTo_ppu (w : Word) (k : Nat) (s : State) : (jumpTo w k s).ppu = s.ppu := rfl
@[simp] theorem jumpTo_svbk (w : Word) (k : Nat) (s : State) : (jumpTo w k s).svbk = s.svbk := rfl
@[simp] theorem jumpTo_mem (w : Word) (k : Nat) (s : State) : (jumpTo w k s).mem = s.mem := rfl
@[simp] theorem jumpTo_fault (w : Word) (k : Nat) (s : State) : (jumpTo w k s).fault = s.fault := rfl
@[simp] theorem jumpTo_cpu_a (w : Word) (k : Nat) (s : State) : (jumpTo w k s).cpu.a = s.cpu.a := rfl
@[simp] theorem jumpTo_cpu_f (w : Word) (k : Nat) (s : State) : (jumpTo w k s).cpu.f = s.cpu.f := rfl
@[simp] theorem jumpTo_cpu_b (w : Word) (k : Nat) (s : State) : (jumpTo w k s).cpu.b = s.cpu.b := rfl
@[simp] theorem jumpTo_cpu_c (w : Word) (k : Nat) (s : State) : (jumpTo w k s).cpu.c = s.cpu.c := rfl
@[simp] theorem jumpTo_cpu_d (w : Word) (k : Nat) (s : State) : (jumpTo w k s).cpu.d = s.cpu.d := rfl
@[simp] theorem jumpTo_cpu_e (w : Word) (k : Nat) (s : State) : (jumpTo w k s).cpu.e = s.cpu.e := rfl
@[simp] theorem jumpTo_cpu_h (w : Word) (k : Nat) (s : State) : (jumpTo w k s).cpu.h = s.cpu.h := rfl
@[simp] theorem jumpTo_cpu_l (w : Word) (k : Nat) (s : State) : (jumpTo w k s).cpu.l = s.cpu.l := rfl
@[simp] theorem jumpTo_cpu_sp (w : Word) (k : Nat) (s : State) : (jumpTo w k s).cpu.sp = s.cpu.sp := rfl
@[simp] theorem jumpTo_cpu_pc (w : Word) (k : Nat) (s : State) : (jumpTo w k s).cpu.pc = w := rfl
@[simp] theorem jumpTo_cpu_ime (w : Word) (k : Nat) (s : State) : (jumpTo w k s).cpu.ime = s.cpu.ime := rfl
@[simp] theorem jumpTo_cpu_halted (w : Word) (k : Nat) (s : State) : (jumpTo w k s).cpu.halted = s.cpu.halted := rfl
@[simp] theorem jumpTo_cpu_cycles (w : Word) (k : Nat) (s : State) : (jumpTo w k s).cpu.cycles = k := rfl

@[simp] theorem setR8_launch (s : State) (r : Reg8) (v : Byte) : (setR8 s r v).launch = s.launch := by cases r <;> rfl
@[simp] theorem setR8_cart (s : State) (r : Reg8) (v : Byte) : (setR8 s r v).cart = s.cart := by cases r <;> rfl
@[simp] theorem setR8_ext (s : State) (r : Reg8) (v : Byte) : (setR8 s r v).ext = s.ext := by cases r <;> rfl
@[simp] theorem setR8_ifReg (s : State) (r : Reg8) (v : Byte) : (setR8 s r v).ifReg = s.ifReg := by cases r <;> rfl
@[simp] theorem setR8_ie (s : State) (r : Reg8) (v : Byte) : (setR8 s r v).ie = s.ie := by cases r <;> rfl
@[simp] theorem setR8_timer (s : State) (r : Reg8) (v : Byte) : (setR8 s r v).timer = s.timer := by cases r <;> rfl
@[simp] theorem setR8_ppu (s : State) (r : Reg8) (v : Byte) : (setR8 s r v).ppu = s.ppu := by cases r <;> rfl
@[simp] theorem setR8_svbk (s : State) (r : Reg8) (v : Byte) : (setR8 s r v).svbk = s.svbk := by cases r <;> rfl
@[simp] theorem setR8_mem (s : State) (r : Reg8) (v : Byte) : (setR8 s r v).mem = s.mem := by cases r <;> rfl
@[simp] theorem setR8_fault (s : State) (r : Reg8) (v : Byte) : (setR8 s r v).fault = s.fault := by cases r <;> rfl
@[simp] theorem setR8_cpu_f (s : State) (r : Reg8) (v : Byte) : (setR8 s r v).cpu.f = s.cpu.f := by cases r <;> rfl
@[simp] theorem setR8_cpu_sp (s : State) (r : Reg8) (v : Byte) : (setR8 s r v).cpu.sp = s.cpu.sp := by cases r <;> rfl
@[simp] theorem setR8_cpu_pc (s : State) (r : Reg8) (v : Byte) : (setR8 s r v).cpu.pc = s.cpu.pc := by cases r <;> rfl
@[simp] theorem setR8_cpu_ime (s : State) (r : Reg8) (v : Byte) : (setR8 s r v).cpu.ime = s.cpu.ime := by cases r <;> rfl
@[simp] theorem setR8_cpu_halted (s : State) (r : Reg8) (v : Byte) : (setR8 s r v).cpu.halted = s.cpu.halted := by cases r <;> rfl
@[simp] theorem setR8_cpu_cycles (s : State) (r : Reg8) (v : Byte) : (setR8 s r v).cpu.cycles = s.cpu.cycles := by cases r <;> rfl

theorem getR8_setR8 (s : State) (r q : Reg8) (v : Byte) : getR8 (setR8 s r v) q = if q = r then v else getR8 s q := by
  cases r <;> cases q <;> rfl
@[simp] theorem getR8_advance (n : Word) (k : Nat) (s : State) (r : Reg8) : getR8 (advance n k s) r = getR8 s r := by
  cases r <;> rfl
@[simp] theorem getR8_setF (s : State) (f : Byte) (r : Reg8) : getR8 (setF s f) r = getR8 s r := by cases r <;> rfl
@[simp] theorem getR8_setSP (s : State) (w : Word) (r : Reg8) : getR8 (setSP s w) r = getR8 s r := by cases r <;> rfl

@[simp] theorem setR16_launch (s : State) (r : Reg16) (w : Word) : (setR16 s r w).launch = s.launch := by cases r <;> rfl
@[simp] theorem setR16_cart (s : State) (r : Reg16) (w : Word) : (setR16 s r w).cart = s.cart := by cases r <;> rfl
@[simp] theorem setR16_ext (s : State) (r : Reg16) (w : Word) : (setR16 s r w).ext = s.ext := by cases r <;> rfl
@[simp] theorem setR16_ifReg (s : State) (r : Reg16) (w : Word) : (setR16 s r w).ifReg = s.ifReg := by cases r <;> rfl
@[simp] theorem setR16_ie (s : State) (r : Reg16) (w : Word) : (setR16 s r w).ie = s.ie := by cases r <;> rfl
@[simp] theorem setR16_timer (s : State) (r : Reg16) (w : Word) : (setR16 s r w).timer = s.timer := by cases r <;> rfl
@[simp] theorem setR16_ppu (s : State) (r : Reg16) (w : Word) : (setR16 s r w).ppu = s.ppu := by cases r <;> rfl
@[simp] theorem setR16_svbk (s : State) (r : Reg16) (w : Word) : (setR16 s r w).svbk = s.svbk := by cases r <;> rfl
@[simp] theorem setR16_mem (s : State) (r : Reg16) (w : Word) : (setR16 s r w).mem = s.mem := by cases r <;> rfl
@[simp] theorem setR16_fault (s : State) (r : Reg16) (w : Word) : (setR16 s r w).fault = s.fault := by cases r <;> rfl
@[simp] theorem setR16_cpu_a (s : State) (r : Reg16) (w : Word) : (setR16 s r w).cpu.a = s.cpu.a := by cases r <;> rfl
@[simp] theorem setR16_cpu_f (s : State) (r : Reg16) (w : Word) : (setR16 s r w).cpu.f = s.cpu.f := by cases r <;> rfl
@[simp] theorem setR16_cpu_pc (s : State) (r : Reg16) (w : Word) : (setR16 s r w).cpu.pc = s.cpu.pc := by cases r <;> rfl
@[simp] theorem setR16_cpu_ime (s : State) (r : Reg16) (w : Word) : (setR16 s r w).cpu.ime = s.cpu.ime := by cases r <;> rfl
@[simp] theorem setR16_cpu_halted (s : State) (r : Reg16) (w : Word) : (setR16 s r w).cpu.halted = s.cpu.halted := by cases r <;> rfl
@[simp] theorem setR16_cpu_cycles (s : State) (r : Reg16) (w : Word) : (setR16 s r w).cpu.cycles = s.cpu.cycles := by cases r <;> rfl
@[simp] theorem setR16S_launch (s : State) (r : Reg16S) (w : Word) : (setR16S s r w).launch = s.launch := by cases r <;> rfl
@[simp] theorem setR16S_cart (s : State) (r : Reg16S) (w : Word) : (setR16S s r w).cart = s.cart := by cases r <;> rfl
@[simp] theorem setR16S_ext (s : State) (r : Reg16S) (w : Word) : (setR16S s r w).ext = s.ext := by cases r <;> rfl
@[simp] theorem setR16S_ifReg (s : State) (r : Reg16S) (w : Word) : (setR16S s r w).ifReg = s.ifReg := by cases r <;> rfl
@[simp] theorem setR16S_ie (s : State) (r : Reg16S) (w : Word) : (setR16S s r w).ie = s.ie := by cases r <;> rfl
@[simp] theorem setR16S_timer (s : State) (r : Reg16S) (w : Word) : (setR16S s r w).timer = s.timer := by cases r <;> rfl
@[simp] theorem setR16S_ppu (s : State) (r : Reg16S) (w : Word) : (setR16S s r w).ppu = s.ppu := by cases r <;> rfl
@[simp] theorem setR16S_svbk (s : State) (r : Reg16S) (w : Word) : (setR16S s r w).svbk = s.svbk := by cases r <;> rfl
@[simp] theorem setR16S_mem (s : State) (r : Reg16S) (w : Word) : (setR16S s r w).mem = s.mem := by cases r <;> rfl
@[simp] theorem setR16S_fault (s : State) (r : Reg16S) (w : Word) : (setR16S s r w).fault = s.fault := by cases r <;> rfl
@[simp] theorem setR16S_cpu_sp (s : State) (r : Reg16S) (w : Word) : (setR16S s r w).cpu.sp = s.cpu.sp := by cases r <;> rfl
@[simp] theorem setR16S_cpu_pc (s : State) (r : Reg16S) (w : Word) : (setR16S s r w).cpu.pc = s.cpu.pc := by cases r <;> rfl
@[simp] theorem setR16S_cpu_ime (s : State) (r : Reg16S) (w : Word) : (setR16S s r w).cpu.ime = s.cpu.ime := by cases r <;> rfl
@[simp] theorem setR16S_cpu_halted (s : State) (r : Reg16S) (w : Word) : (setR16S s r w).cpu.halted = s.cpu.halted := by cases r <;> rfl
@[simp] theorem setR16S_cpu_cycles (s : State) (r : Reg16S) (w : Word) : (setR16S s r w).cpu.cycles = s.cpu.cycles := by cases r <;> rfl

@[simp] theorem setVram_cpu (s : State) (i : Nat) (v : Byte) : (setVram s i v).cpu = s.cpu := rfl
@[simp] theorem setVram_launch (s : State) (i : Nat) (v : Byte) : (setVram s i v).launch = s.launch := rfl
@[simp] theorem setVram_cart (s : State) (i : Nat) (v : Byte) : (setVram s i v).cart = s.cart := rfl
@[simp] theorem setVram_ext (s : State) (i : Nat) (v : Byte) : (setVram s i v).ext = s.ext := rfl
@[simp] theorem setVram_ifReg (s : State) (i : Nat) (v : Byte) : (setVram s i v).ifReg = s.ifReg := rfl
@[simp] theorem setVram_ie (s : State) (i : Nat) (v : Byte) : (setVram s i v).ie = s.ie := rfl
@[simp] theorem setVram_timer (s : State) (i : Nat) (v : Byte) : (setVram s i v).timer = s.timer := rfl
@[simp] theorem setVram_ppu (s : State) (i : Nat) (v : Byte) : (setVram s i v).ppu = s.ppu := rfl
@[simp] theorem setVram_svbk (s : State) (i : Nat) (v : Byte) : (setVram s i v).svbk = s.svbk := rfl
@[simp] theorem setVram_fault (s : State) (i : Nat) (v : Byte) : (setVram s i v).fault = s.fault := rfl
@[simp] theorem setVram_mem_vram (s : State) (i : Nat) (v : Byte) : (setVram s i v).mem.vram = s.mem.vram.write i v := rfl
@[simp] theorem setVram_mem_wram (s : State) (i : Nat) (v : Byte) : (setVram s i v).mem.wram = s.mem.wram := rfl
@[simp] theorem setVram_mem_oam (s : State) (i : Nat) (v : Byte) : (setVram s i v).mem.oam = s.mem.oam := rfl
@[simp] theorem setVram_mem_hram (s : State) (i : Nat) (v : Byte) : (setVram s i v).mem.hram = s.mem.hram := rfl
@[simp] theorem setVram_mem_snd (s : State) (i : Nat) (v : Byte) : (setVram s i v).mem.snd = s.mem.snd := rfl
@[simp] theorem setVram_mem_bgPal (s : State) (i : Nat) (v : Byte) : (setVram s i v).mem.bgPal = s.mem.bgPal := rfl
@[simp] theorem setVram_mem_objPal (s : State) (i : Nat) (v : Byte) : (setVram s i v).mem.objPal = s.mem.objPal := rfl

@[simp] theorem setWram_cpu (s : State) (i : Nat) (v : Byte) : (setWram s i v).cpu = s.cpu := rfl
@[simp] theorem setWram_launch (s : State) (i : Nat) (v : Byte) : (setWram s i v).launch = s.launch := rfl
@[simp] theorem setWram_cart (s : State) (i : Nat) (v : Byte) : (setWram s i v).cart = s.cart := rfl
@[simp] theorem setWram_ext (s : State) (i : Nat) (v : Byte) : (setWram s i v).ext = s.ext := rfl
@[simp] theorem setWram_ifReg (s : State) (i : Nat) (v : Byte) : (setWram s i v).ifReg = s.ifReg := rfl
@[simp] theorem setWram_ie (s : State) (i : Nat) (v : Byte) : (setWram s i v).ie = s.ie := rfl
@[simp] theorem setWram_timer (s : State) (i : Nat) (v : Byte) : (setWram s i v).timer = s.timer := rfl
@[simp] theorem setWram_ppu (s : State) (i : Nat) (v : Byte) : (setWram s i v).ppu = s.ppu := rfl
@[simp] theorem setWram_svbk (s : State) (i : Nat) (v : Byte) : (setWram s i v).svbk = s.svbk := rfl
@[simp] theorem setWram_fault (s : State) (i : Nat) (v : Byte) : (setWram s i v).fault = s.fault := rfl
@[simp] theorem setWram_mem_vram (s : State) (i : Nat) (v : Byte) : (setWram s i v).mem.vram = s.mem.vram := rfl
@[simp] theorem setWram_mem_wram (s : State) (i : Nat) (v : Byte) : (setWram s i v).mem.wram = s.mem.wram.write i v := rfl
@[simp] theorem setWram_mem_oam (s : State) (i : Nat) (v : Byte) : (setWram s i v).mem.oam = s.mem.oam := rfl
@[simp] theorem setWram_mem_hram (s : State) (i : Nat) (v : Byte) : (setWram s i v).mem.hram = s.mem.hram := rfl
@[simp] theorem setWram_mem_snd (s : State) (i : Nat) (v : Byte) : (setWram s i v).mem.snd = s.mem.snd := rfl
@[simp] theorem setWram_mem_bgPal (s : State) (i : Nat) (v : Byte) : (setWram s i v).mem.bgPal = s.mem.bgPal := rfl
@[simp] theorem setWram_mem_objPal (s : State) (i : Nat) (v : Byte) : (setWram s i v).mem.objPal = s.mem.objPal := rfl

@[simp] theorem setOam_cpu (s : State) (i : Nat) (v : Byte) : (setOam s i v).cpu = s.cpu := rfl
@[simp] theorem setOam_launch (s : State) (i : Nat) (v : Byte) : (setOam s i v).launch = s.launch := rfl
@[simp] theorem setOam_cart (s : State) (i : Nat) (v : Byte) : (setOam s i v).cart = s.cart := rfl
@[simp] theorem setOam_ext (s : State) (i : Nat) (v : Byte) : (setOam s i v).ext = s.ext := rfl
@[simp] theorem setOam_ifReg (s : State) (i : Nat) (v : Byte) : (setOam s i v).ifReg = s.ifReg := rfl
@[simp] theorem setOam_ie (s : State) (i : Nat) (v : Byte) : (setOam s i v).ie = s.ie := rfl
@[simp] theorem setOam_timer (s : State) (i : Nat) (v : Byte) : (setOam s i v).timer = s.timer := rfl
@[simp] theorem setOam_ppu (s : State) (i : Nat) (v : Byte) : (setOam s i v).ppu = s.ppu := rfl
@[simp] theorem setOam_svbk (s : State) (i : Nat) (v : Byte) : (setOam s i v).svbk = s.svbk := rfl
@[simp] theorem setOam_fault (s : State) (i : Nat) (v : Byte) : (setOam s i v).fault = s.fault := rfl
@[simp] theorem setOam_mem_vram (s : State) (i : Nat) (v : Byte) : (setOam s i v).mem.vram = s.mem.vram := rfl
@[simp] theorem setOam_mem_wram (s : State) (i : Nat) (v : Byte) : (setOam s i v).mem.wram = s.mem.wram := rfl
@[simp] theorem setOam_mem_oam (s : State) (i : Nat) (v : Byte) : (setOam s i v).mem.oam = s.mem.oam.write i v := rfl
@[simp] theorem setOam_mem_hram (s : State) (i : Nat) (v : Byte) : (setOam s i v).mem.hram = s.mem.hram := rfl
@[simp] theorem setOam_mem_snd (s : State) (i : Nat) (v : Byte) : (setOam s i v).mem.snd = s.mem.snd := rfl
@[simp] theorem setOam_mem_bgPal (s : State) (i : Nat) (v : Byte) : (setOam s i v).mem.bgPal = s.mem.bgPal := rfl
@[simp] theorem setOam_mem_objPal (s : State) (i : Nat) (v : Byte) : (setOam s i v).mem.objPal = s.mem.objPal := rfl

@[simp] theorem setHram_cpu (s : State) (i : Nat) (v : Byte) : (setHram s i v).cpu = s.cpu := rfl
@[simp] theorem setHram_launch (s : State) (i : Nat) (v : Byte) : (setHram s i v).launch = s.launch := rfl
@[simp] theorem setHram_cart (s : State) (i : Nat) (v : Byte) : (setHram s i v).cart = s.cart := rfl
@[simp] theorem setHram_ext (s : State) (i : Nat) (v : Byte) : (setHram s i v).ext = s.ext := rfl
@[simp] theorem setHram_ifReg (s : State) (i : Nat) (v : Byte) : (setHram s i v).ifReg = s.ifReg := rfl
@[simp] theorem setHram_ie (s : State) (i : Nat) (v : Byte) : (setHram s i v).ie = s.ie := rfl
@[simp] theorem setHram_timer (s : State) (i : Nat) (v : Byte) : (setHram s i v).timer = s.timer := rfl
@[simp] theorem setHram_ppu (s : State) (i : Nat) (v : Byte) : (setHram s i v).ppu = s.ppu := rfl
@[simp] theorem setHram_svbk (s : State) (i : Nat) (v : Byte) : (setHram s i v).svbk = s.svbk := rfl
@[simp] theorem setHram_fault (s : State) (i : Nat) (v : Byte) : (setHram s i v).fault = s.fault := rfl
@[simp] theorem setHram_mem_vram (s : State) (i : Nat) (v : Byte) : (setHram s i v).mem.vram = s.mem.vram := rfl
@[simp] theorem setHram_mem_wram (s : State) (i : Nat) (v : Byte) : (setHram s i v).mem.wram = s.mem.wram := rfl
@[simp] theorem setHram_mem_oam (s : State) (i : Nat) (v : Byte) : (setHram s i v).mem.oam = s.mem.oam := rfl
@[simp] theorem setHram_mem_hram (s : State) (i : Nat) (v : Byte) : (setHram s i v).mem.hram = s.mem.hram.write i v := rfl
@[simp] theorem setHram_mem_snd (s : State) (i : Nat) (v : Byte) : (setHram s i v).mem.snd = s.mem.snd := rfl
@[simp] theorem setHram_mem_bgPal (s : State) (i : Nat) (v : Byte) : (setHram s i v).mem.bgPal = s.mem.bgPal := rfl
@[simp] theorem setHram_mem_objPal (s : State) (i : Nat) (v : Byte) : (setHram s i v).mem.objPal = s.mem.objPal := rfl

@[simp] theorem setSnd_cpu (s : State) (i : Nat) (v : Byte) : (setSnd s i v).cpu = s.cpu := rfl
@[simp] theorem setSnd_launch (s : State) (i : Nat) (v : Byte) : (setSnd s i v).launch = s.launch := rfl
@[simp] theorem setSnd_cart (s : State) (i : Nat) (v : Byte) : (setSnd s i v).cart = s.cart := rfl
@[simp] theorem setSnd_ext (s : State) (i : Nat) (v : Byte) : (setSnd s i v).ext = s.ext := rfl
@[simp] theorem setSnd_ifReg (s : State) (i : Nat) (v : Byte) : (setSnd s i v).ifReg = s.ifReg := rfl
@[simp] theorem setSnd_ie (s : State) (i : Nat) (v : Byte) : (setSnd s i v).ie = s.ie := rfl
@[simp] theorem setSnd_timer (s : State) (i : Nat) (v : Byte) : (setSnd s i v).timer = s.timer := rfl
@[simp] theorem setSnd_ppu (s : State) (i : Nat) (v : Byte) : (setSnd s i v).ppu = s.ppu := rfl
@[simp] theorem setSnd_svbk (s : State) (i : Nat) (v : Byte) : (setSnd s i v).svbk = s.svbk := rfl
@[simp] theorem setSnd_fault (s : State) (i : Nat) (v : Byte) : (setSnd s i v).fault = s.fault := rfl
@[simp] theorem setSnd_mem_vram (s : State) (i : Nat) (v : Byte) : (setSnd s i v).mem.vram = s.mem.vram := rfl
@[simp] theorem setSnd_mem_wram (s : State) (i : Nat) (v : Byte) : (setSnd s i v).mem.wram = s.mem.wram := rfl
@[simp] theorem setSnd_mem_oam (s : State) (i : Nat) (v : Byte) : (setSnd s i v).mem.oam = s.mem.oam := rfl
@[simp] theorem setSnd_mem_hram (s : State) (i : Nat) (v : Byte) : (setSnd s i v).mem.hram = s.mem.hram := rfl
@[simp] theorem setSnd_mem_snd (s : State) (i : Nat) (v : Byte) : (setSnd s i v).mem.snd = s.mem.snd.write i v := rfl
@[simp] theorem setSnd_mem_bgPal (s : State) (i : Nat) (v : Byte) : (setSnd s i v).mem.bgPal = s.mem.bgPal := rfl
@[simp] theorem setSnd_mem_objPal (s : State) (i : Nat) (v : Byte) : (setSnd s i v).mem.objPal = s.mem.objPal := rfl

@[simp] theorem setHdma_cpu (s : State) (d : Hdma) : (setHdma s d).cpu = s.cpu := rfl
@[simp] theorem setHdma_launch (s : State) (d : Hdma) : (setHdma s d).launch = s.launch := rfl
@[simp] theorem setHdma_cart (s : State) (d : Hdma) : (setHdma s d).cart = s.cart := rfl
@[simp] theorem setHdma_ext (s : State) (d : Hdma) : (setHdma s d).ext = s.ext := rfl
@[simp] theorem setHdma_ifReg (s : State) (d : Hdma) : (setHdma s d).ifReg = s.ifReg := rfl
@[simp] theorem setHdma_ie (s : State) (d : Hdma) : (setHdma s d).ie = s.ie := rfl
@[simp] theorem setHdma_timer (s : State) (d : Hdma) : (setHdma s d).timer = s.timer := rfl
@[simp] theorem setHdma_svbk (s : State) (d : Hdma) : (setHdma s d).svbk = s.svbk := rfl
@[simp] theorem setHdma_mem (s : State) (d : Hdma) : (setHdma s d).mem = s.mem := rfl
@[simp] theorem setHdma_fault (s : State) (d : Hdma) : (setHdma s d).fault = s.fault := rfl
@[simp] theorem setHdma_ppu_lcdc (s : State) (d : Hdma) : (setHdma s d).ppu.lcdc = s.ppu.lcdc := rfl
@[simp] theorem setHdma_ppu_stat (s : State) (d : Hdma) : (setHdma s d).ppu.stat = s.ppu.stat := rfl
@[simp] theorem setHdma_ppu_scy (s : State) (d : Hdma) : (setHdma s d).ppu.scy = s.ppu.scy := rfl
@[simp] theorem setHdma_ppu_scx (s : State) (d : Hdma) : (setHdma s d).ppu.scx = s.ppu.scx := rfl
@[simp] theorem setHdma_ppu_ly (s : State) (d : Hdma) : (setHdma s d).ppu.ly = s.ppu.ly := rfl
@[simp] theorem setHdma_ppu_lyc (s : State) (d : Hdma) : (setHdma s d).ppu.lyc = s.ppu.lyc := rfl
@[simp] theorem setHdma_ppu_dma (s : State) (d : Hdma) : (setHdma s d).ppu.dma = s.ppu.dma := rfl
@[simp] theorem setHdma_ppu_bgp (s : State) (d : Hdma) : (setHdma s d).ppu.bgp = s.ppu.bgp := rfl
@[simp] theorem setHdma_ppu_obp0 (s : State) (d : Hdma) : (setHdma s d).ppu.obp0 = s.ppu.obp0 := rfl
@[simp] theorem setHdma_ppu_obp1 (s : State) (d : Hdma) : (setHdma s d).ppu.obp1 = s.ppu.obp1 := rfl
@[simp] theorem setHdma_ppu_wy (s : State) (d : Hdma) : (setHdma s d).ppu.wy = s.ppu.wy := rfl
@[simp] theorem setHdma_ppu_wx (s : State) (d : Hdma) : (setHdma s d).ppu.wx = s.ppu.wx := rfl
@[simp] theorem setHdma_ppu_cycles (s : State) (d : Hdma) : (setHdma s d).ppu.cycles = s.ppu.cycles := rfl
@[simp] theorem setHdma_ppu_vbk (s : State) (d : Hdma) : (setHdma s d).ppu.vbk = s.ppu.vbk := rfl
@[simp] theorem setHdma_ppu_hdma (s : State) (d : Hdma) : (setHdma s d).ppu.hdma = d := rfl
@[simp] theorem setHdma_ppu_bcps (s : State) (d : Hdma) : (setHdma s d).ppu.bcps = s.ppu.bcps := rfl
@[simp] theorem setHdma_ppu_ocps (s : State) (d : Hdma) : (setHdma s d).ppu.ocps = s.ppu.ocps := rfl
@[simp] theorem setHdma_ppu_framebuffer (s : State) (d : Hdma) : (setHdma s d).ppu.framebuffer = s.ppu.framebuffer := rfl
@[simp] theorem setHdma_ppu_framesOut (s : State) (d : Hdma) : (setHdma s d).ppu.framesOut = s.ppu.framesOut := rfl

@[simp] theorem setStat_cpu (s : State) (v : Byte) : (setStat s v).cpu = s.cpu := rfl
@[simp] theorem setStat_launch (s : State) (v : Byte) : (setStat s v).launch = s.launch := rfl
@[simp] theorem setStat_cart (s : State) (v : Byte) : (setStat s v).cart = s.cart := rfl
@[simp] theorem setStat_ext (s : State) (v : Byte) : (setStat s v).ext = s.ext := rfl
@[simp] theorem setStat_ifReg (s : State) (v : Byte) : (setStat s v).ifReg = s.ifReg := rfl
@[simp] theorem setStat_ie (s : State) (v : Byte) : (setStat s v).ie = s.ie := rfl
@[simp] theorem setStat_timer (s : State) (v : Byte) : (setStat s v).timer = s.timer := rfl
@[simp] theorem setStat_svbk (s : State) (v : Byte) : (setStat s v).svbk = s.svbk := rfl
@[simp] theorem setStat_mem (s : State) (v : Byte) : (setStat s v).mem = s.mem := rfl
@[simp] theorem setStat_fault (s : State) (v : Byte) : (setStat s v).fault = s.fault := rfl
@[simp] theorem setStat_ppu_lcdc (s : State) (v : Byte) : (setStat s v).ppu.lcdc = s.ppu.lcdc := rfl
@[simp] theorem setStat_ppu_stat (s : State) (v : Byte) : (setStat s v).ppu.stat = v := rfl
@[simp] theorem setStat_ppu_scy (s : State) (v : Byte) : (setStat s v).ppu.scy = s.ppu.scy := rfl
@[simp] theorem setStat_ppu_scx (s : State) (v : Byte) : (setStat s v).ppu.scx = s.ppu.scx := rfl
@[simp] theorem setStat_ppu_ly (s : State) (v : Byte) : (setStat s v).ppu.ly = s.ppu.ly := rfl
@[simp] theorem setStat_ppu_lyc (s : State) (v : Byte) : (setStat s v).ppu.lyc = s.ppu.lyc := rfl
@[simp] theorem setStat_ppu_dma (s : State) (v : Byte) : (setStat s v).ppu.dma = s.ppu.dma := rfl
@[simp] theorem setStat_ppu_bgp (s : State) (v : Byte) : (setStat s v).ppu.bgp = s.ppu.bgp := rfl
@[simp] theorem setStat_ppu_obp0 (s : State) (v : Byte) : (setStat s v).ppu.obp0 = s.ppu.obp0 := rfl
@[simp] theorem setStat_ppu_obp1 (s : State) (v : Byte) : (setStat s v).ppu.obp1 = s.ppu.obp1 := rfl
@[simp] theorem setStat_ppu_wy (s : State) (v : Byte) : (setStat s v).ppu.wy = s.ppu.wy := rfl
@[simp] theorem setStat_ppu_wx (s : State) (v : Byte) : (setStat s v).ppu.wx = s.ppu.wx := rfl
@[simp] theorem setStat_ppu_cycles (s : State) (v : Byte) : (setStat s v).ppu.cycles = s.ppu.cycles := rfl
@[simp] theorem setStat_ppu_vbk (s : State) (v : Byte) : (setStat s v).ppu.vbk = s.ppu.vbk := rfl
@[simp] theorem setStat_ppu_hdma (s : State) (v : Byte) : (setStat s v).ppu.hdma = s.ppu.hdma := rfl
@[simp] theorem setStat_ppu_bcps (s : State) (v : Byte) : (setStat s v).ppu.bcps = s.ppu.bcps := rfl
@[simp] theorem setStat_ppu_ocps (s : State) (v : Byte) : (setStat s v).ppu.ocps = s.ppu.ocps := rfl
@[simp] theorem setStat_ppu_framebuffer (s : State) (v : Byte) : (setStat s v).ppu.framebuffer = s.ppu.framebuffer := rfl
@[simp] theorem setStat_ppu_framesOut (s : State) (v : Byte) : (setStat s v).ppu.framesOut = s.ppu.framesOut := rfl

@[simp] theorem setLy_cpu (s : State) (v : Byte) : (setLy s v).cpu = s.cpu := rfl
@[simp] theorem setLy_launch (s : State) (v : Byte) : (setLy s v).launch = s.launch := rfl
@[simp] theorem setLy_cart (s : State) (v : Byte) : (setLy s v).cart = s.cart := rfl
@[simp] theorem setLy_ext (s : State) (v : Byte) : (setLy s v).ext = s.ext := rfl
@[simp] theorem setLy_ifReg (s : State) (v : Byte) : (setLy s v).ifReg = s.ifReg := rfl
@[simp] theorem setLy_ie (s : State) (v : Byte) : (setLy s v).ie = s.ie := rfl
@[simp] theorem setLy_timer (s : State) (v : Byte) : (setLy s v).timer = s.timer := rfl
@[simp] theorem setLy_svbk (s : State) (v : Byte) : (setLy s v).svbk = s.svbk := rfl
@[simp] theorem setLy_mem (s : State) (v : Byte) : (setLy s v).mem = s.mem := rfl
@[simp] theorem setLy_fault (s : State) (v : Byte) : (setLy s v).fault = s.fault := rfl
@[simp] theorem setLy_ppu_lcdc (s : State) (v : Byte) : (setLy s v).ppu.lcdc = s.ppu.lcdc := rfl
@[simp] theorem setLy_ppu_stat (s : State) (v : Byte) : (setLy s v).ppu.stat = s.ppu.stat := rfl
@[simp] theorem setLy_ppu_scy (s : State) (v : Byte) : (setLy s v).ppu.scy = s.ppu.scy := rfl
@[simp] theorem setLy_ppu_scx (s : State) (v : Byte) : (setLy s v).ppu.scx = s.ppu.scx := rfl
@[simp] theorem setLy_ppu_ly (s : State) (v : Byte) : (setLy s v).ppu.ly = v := rfl
@[simp] theorem setLy_ppu_lyc (s : State) (v : Byte) : (setLy s v).ppu.lyc = s.ppu.lyc := rfl
@[simp] theorem setLy_ppu_dma (s : State) (v : Byte) : (setLy s v).ppu.dma = s.ppu.dma := rfl
@[simp] theorem setLy_ppu_bgp (s : State) (v : Byte) : (setLy s v).ppu.bgp = s.ppu.bgp := rfl
@[simp] theorem setLy_ppu_obp0 (s : State) (v : Byte) : (setLy s v).ppu.obp0 = s.ppu.obp0 := rfl
@[simp] theorem setLy_ppu_obp1 (s : State) (v : Byte) : (setLy s v).ppu.obp1 = s.ppu.obp1 := rfl
@[simp] theorem setLy_ppu_wy (s : State) (v : Byte) : (setLy s v).ppu.wy = s.ppu.wy := rfl
@[simp] theorem setLy_ppu_wx (s : State) (v : Byte) : (setLy s v).ppu.wx = s.ppu.wx := rfl
@[simp] theorem setLy_ppu_cycles (s : State) (v : Byte) : (setLy s v).ppu.cycles = s.ppu.cycles := rfl
@[simp] theorem setLy_ppu_vbk (s : State) (v : Byte) : (setLy s v).ppu.vbk = s.ppu.vbk := rfl
@[simp] theorem setLy_ppu_hdma (s : State) (v : Byte) : (setLy s v).ppu.hdma = s.ppu.hdma := rfl
@[simp] theorem setLy_ppu_bcps (s : State) (v : Byte) : (setLy s v).ppu.bcps = s.ppu.bcps := rfl
@[simp] theorem setLy_ppu_ocps (s : State) (v : Byte) : (setLy s v).ppu.ocps = s.ppu.ocps := rfl
@[simp] theorem setLy_ppu_framebuffer (s : State) (v : Byte) : (setLy s v).ppu.framebuffer = s.ppu.framebuffer := rfl
@[simp] theorem setLy_ppu_framesOut (s : State) (v : Byte) : (setLy s v).ppu.framesOut = s.ppu.framesOut := rfl

@[simp] theorem setPpuCycles_cpu (s : State) (n : Nat) : (setPpuCycles s n).cpu = s.cpu := rfl
@[simp] theorem setPpuCycles_launch (s : State) (n : Nat) : (setPpuCycles s n).launch = s.launch := rfl
@[simp] theorem setPpuCycles_cart (s : State) (n : Nat) : (setPpuCycles s n).cart = s.cart := rfl
@[simp] theorem setPpuCycles_ext (s : State) (n : Nat) : (setPpuCycles s n).ext = s.ext := rfl
@[simp] theorem setPpuCycles_ifReg (s : State) (n : Nat) : (setPpuCycles s n).ifReg = s.ifReg := rfl
@[simp] theorem setPpuCycles_ie (s : State) (n : Nat) : (setPpuCycles s n).ie = s.ie := rfl
@[simp] theorem setPpuCycles_timer (s : State) (n : Nat) : (setPpuCycles s n).timer = s.timer := rfl
@[simp] theorem setPpuCycles_svbk (s : State) (n : Nat) : (setPpuCycles s n).svbk = s.svbk := rfl
@[simp] theorem setPpuCycles_mem (s : State) (n : Nat) : (setPpuCycles s n).mem = s.mem := rfl
@[simp] theorem setPpuCycles_fault (s : State) (n : Nat) : (setPpuCycles s n).fault = s.fault := rfl
@[simp] theorem setPpuCycles_ppu_lcdc (s : State) (n : Nat) : (setPpuCycles s n).ppu.lcdc = s.ppu.lcdc := rfl
@[simp] theorem setPpuCycles_ppu_stat (s : State) (n : Nat) : (setPpuCycles s n).ppu.stat = s.ppu.stat := rfl
@[simp] theorem setPpuCycles_ppu_scy (s : State) (n : Nat) : (setPpuCycles s n).ppu.scy = s.ppu.scy := rfl
@[simp] theorem setPpuCycles_ppu_scx (s : State) (n : Nat) : (setPpuCycles s n).ppu.scx = s.ppu.scx := rfl
@[simp] theorem setPpuCycles_ppu_ly (s : State) (n : Nat) : (setPpuCycles s n).ppu.ly = s.ppu.ly := rfl
@[simp] theorem setPpuCycles_ppu_lyc (s : State) (n : Nat) : (setPpuCycles s n).ppu.lyc = s.ppu.lyc := rfl
@[simp] theorem setPpuCycles_ppu_dma (s : State) (n : Nat) : (setPpuCycles s n).ppu.dma = s.ppu.dma := rfl
@[simp] theorem setPpuCycles_ppu_bgp (s : State) (n : Nat) : (setPpuCycles s n).ppu.bgp = s.ppu.bgp := rfl
@[simp] theorem setPpuCycles_ppu_obp0 (s : State) (n : Nat) : (setPpuCycles s n).ppu.obp0 = s.ppu.obp0 := rfl
@[simp] theorem setPpuCycles_ppu_obp1 (s : State) (n : Nat) : (setPpuCycles s n).ppu.obp1 = s.ppu.obp1 := rfl
@[simp] theorem setPpuCycles_ppu_wy (s : State) (n : Nat) : (setPpuCycles s n).ppu.wy = s.ppu.wy := rfl
@[simp] theorem setPpuCycles_ppu_wx (s : State) (n : Nat) : (setPpuCycles s n).ppu.wx = s.ppu.wx := rfl
@[simp] theorem setPpuCycles_ppu_cycles (s : State) (n : Nat) : (setPpuCycles s n).ppu.cycles = n := rfl
@[simp] theorem setPpuCycles_ppu_vbk (s : State) (n : Nat) : (setPpuCycles s n).ppu.vbk = s.ppu.vbk := rfl
@[simp] theorem setPpuCycles_ppu_hdma (s : State) (n : Nat) : (setPpuCycles s n).ppu.hdma = s.ppu.hdma := rfl
@[simp] theorem setPpuCycles_ppu_bcps (s : State) (n : Nat) : (setPpuCycles s n).ppu.bcps = s.ppu.bcps := rfl
@[simp] theorem setPpuCycles_ppu_ocps (s : State) (n : Nat) : (setPpuCycles s n).ppu.ocps = s.ppu.ocps := rfl
@[simp] theorem setPpuCycles_ppu_framebuffer (s : State) (n : Nat) : (setPpuCycles s n).ppu.framebuffer = s.ppu.framebuffer := rfl
@[simp] theorem setPpuCycles_ppu_framesOut (s : State) (n : Nat) : (setPpuCycles s n).ppu.framesOut = s.ppu.framesOut := rfl

@[simp] theorem request_cpu (i : Nat) (s : State) : (request i s).cpu = s.cpu := rfl
@[simp] theorem request_launch (i : Nat) (s : State) : (request i s).launch = s.launch := rfl
@[simp] theorem request_cart (i : Nat) (s : State) : (request i s).cart = s.cart := rfl
@[simp] theorem request_ext (i : Nat) (s : State) : (request i s).ext = s.ext := rfl
@[simp] theorem request_ie (i : Nat) (s : State) : (request i s).ie = s.ie := rfl
@[simp] theorem request_timer (i : Nat) (s : State) : (request i s).timer = s.timer := rfl
@[simp] theorem request_ppu (i : Nat) (s : State) : (request i s).ppu = s.ppu := rfl
@[simp] theorem request_svbk (i : Nat) (s : State) : (request i s).svbk = s.svbk := rfl
@[simp] theorem request_mem (i : Nat) (s : State) : (request i s).mem = s.mem := rfl
@[simp] theorem request_fault (i : Nat) (s : State) : (request i s).fault = s.fault := rfl
@[simp] theorem request_ifReg (i : Nat) (s : State) : (request i s).ifReg = s.ifReg ||| ((1 : BitVec 5) <<< i) := rfl

end Sys2Proof.Machine
end

