-- ==== Sys2Proof/Laws/Exec.lean ====
section
/-! SUPPORT. The meaning of an instruction is the shared operation of its form: one case split over all instructions, cited
by every proof about `exec`. -/

namespace Sys2Proof.Machine

/-- The shared operation of each form. -/
def runForm (f : Form) (s : State) : Result :=
  match f with
  | .nop => nopOp s
  | .halt => haltOp s
  | .stop _ => stopOp s
  | .di => diOp s
  | .ei => eiOp s
  | .illegal op => illegalOp op s
  | .ldRR d r => ldRegReg d r s
  | .ldRN d n => ldRegImm d n s
  | .ldRM d => ldRegMem d s
  | .ldMR r => ldMemReg r s
  | .ldMN n => ldMemImm n s
  | .ldA m => ldAcc m s
  | .stA m => stAcc m s
  | .ldRRNN rr nn => ldPairImm rr nn s
  | .stSP nn => storeSP nn s
  | .ldSPHL => ldSPFromHL s
  | .ldHLSP e => ldHLFromSP e s
  | .push rr => pushPair rr s
  | .pop rr => popPair rr s
  | .aluR op r => aluReg op r s
  | .aluM op => aluMem op s
  | .aluN op n => aluImm op n s
  | .incR r => incReg r s
  | .incM => incMem s
  | .decR r => decReg r s
  | .decM => decMem s
  | .daa => daaOp s
  | .cpl => cplOp s
  | .scf => scfOp s
  | .ccf => ccfOp s
  | .addHL rr => addHLPair rr s
  | .incRR rr => incPair rr s
  | .decRR rr => decPair rr s
  | .addSP e => addSPImm e s
  | .rotA op => rotAcc op s
  | .rotR op r => rotReg op r s
  | .rotM op => rotMem op s
  | .bitR b r => bitReg b r s
  | .bitM b => bitMem b s
  | .resR b r => resReg b r s
  | .resM b => resMem b s
  | .setR b r => setReg b r s
  | .setM b => setMem b s
  | .jp nn => jpOp nn s
  | .jpCC cc nn => jpIf cc nn s
  | .jpHL => jpToHL s
  | .jr e => jrOp e s
  | .jrCC cc e => jrIf cc e s
  | .call nn => callOp nn s
  | .callCC cc nn => callIf cc nn s
  | .ret => retOp s
  | .retCC cc => retIf cc s
  | .rst t => rstTo t s
  | .reti => retiOp s

/-- The prefix row does what its CB-table row does (R306). -/
theorem cbRun_eq_runForm (op2 : Byte) (s : State) : cbRun op2 s = runForm (cbForm op2) s := by
  unfold cbRun cbForm
  cases reg8Of (fieldZ op2) with
  | none => match fieldX op2 with
    | 0 => rfl
    | 1 => rfl
    | 2 => rfl
    | n + 3 => rfl
  | some r => match fieldX op2 with
    | 0 => rfl
    | 1 => rfl
    | 2 => rfl
    | n + 3 => rfl

/-- Every arm of `exec` is its form's shared operation. -/
theorem exec_eq_runForm (i : Instr) (s : State) : exec i s = runForm i.form s := by
  cases i
  case prefix_CB op2 => exact cbRun_eq_runForm op2 s
  all_goals rfl

set_option maxRecDepth 8000 in
/-- The two bytes of a CB-table row (R132). -/
theorem cbBytes (op2 : Byte) : [0xCB, op2] = formBytes (cbForm op2) := by
  revert op2; decide

/-- An instruction's bytes are those of its form. -/
theorem encode_eq_formBytes (i : Instr) : encode i = formBytes i.form := by
  cases i
  case prefix_CB op2 => exact cbBytes op2
  all_goals rfl

end Sys2Proof.Machine
end

