-- ==== Sys2Proof/Laws/Memory.lean ====
section
/-! SUPPORT. The laws of the memory lists: what a read after a write gives, and that a write keeps the canonical form. -/

namespace Sys2Proof.Machine

/-- A cell that no write touched reads as before. -/
theorem Memory.read_write_ne (m : Memory) (a b : Nat) (v : Byte) (h : b ≠ a) :
    (Memory.write m a v).read b = Memory.read m b := by
  induction m with
  | nil => simp only [Memory.write]; split <;> simp [Memory.read, h.symm]
  | cons e rest ih =>
    obtain ⟨k, w⟩ := e
    simp only [Memory.write]
    split
    · split <;> simp [Memory.read, h.symm]
    · split
      · next hk => subst hk; split <;> simp [Memory.read, h.symm]
      · simp [Memory.read, ih]

/-- Below the first address of a canonical list every cell is unlisted. -/
theorem Memory.read_of_wfFrom (size low : Nat) (m : Memory) (h : Memory.wfFrom size low m = true) (a : Nat)
    (ha : a < low) : Memory.read m a = Config.unlistedByte := by
  induction m generalizing low with
  | nil => rfl
  | cons e rest ih =>
    obtain ⟨k, w⟩ := e
    simp only [Memory.wfFrom, Bool.and_eq_true, decide_eq_true_eq] at h
    have hk : k ≠ a := by omega
    simp only [Memory.read, if_neg hk]
    exact ih (k + 1) h.2 (by omega)

/-- A cell reads as what was last written to it. -/
theorem Memory.read_write_same_from (size low : Nat) (m : Memory) (h : Memory.wfFrom size low m = true) (a : Nat)
    (v : Byte) : (Memory.write m a v).read a = v := by
  induction m generalizing low with
  | nil => simp only [Memory.write]; split <;> simp_all [Memory.read]
  | cons e rest ih =>
    obtain ⟨k, w⟩ := e
    have h' := h
    simp only [Memory.wfFrom, Bool.and_eq_true, decide_eq_true_eq] at h'
    simp only [Memory.write]
    split
    · next hlt =>
      split
      · next hv =>
        have hk : k ≠ a := by omega
        simp only [Memory.read, if_neg hk, hv]
        exact Memory.read_of_wfFrom size (k + 1) rest h'.2 a (by omega)
      · simp [Memory.read]
    · split
      · next hk =>
        subst hk
        split
        · next hv => rw [hv]; exact Memory.read_of_wfFrom size (a + 1) rest h'.2 a (by omega)
        · simp [Memory.read]
      · next hk =>
        have hk : k ≠ a := fun e => hk e.symm
        simp only [Memory.read, if_neg hk]
        exact ih (k + 1) h'.2

/-- A cell of a canonical memory reads as what was last written to it. -/
theorem Memory.read_write_same {size : Nat} {m : Memory} (h : m.wf size = true) (a : Nat) (v : Byte) :
    (Memory.write m a v).read a = v := Memory.read_write_same_from size 0 m h a v

/-- A write keeps the canonical form from any lower bound not above the cell. -/
theorem Memory.wfFrom_write (size low : Nat) (m : Memory) (h : Memory.wfFrom size low m = true) (a : Nat) (v : Byte)
    (hl : low ≤ a) (ha : a < size) : Memory.wfFrom size low (Memory.write m a v) = true := by
  induction m generalizing low with
  | nil => simp only [Memory.write]; split <;> simp_all [Memory.wfFrom]
  | cons e rest ih =>
    obtain ⟨k, w⟩ := e
    have h' := h
    simp only [Memory.wfFrom, Bool.and_eq_true, decide_eq_true_eq] at h'
    obtain ⟨⟨⟨hlk, hks⟩, hw⟩, hr⟩ := h'
    simp only [Memory.write]
    split
    · next hlt =>
      split
      · exact h
      · next hv =>
        simp only [Memory.wfFrom, Bool.and_eq_true, decide_eq_true_eq]
        exact ⟨⟨⟨hl, ha⟩, hv⟩, ⟨⟨by omega, hks⟩, hw⟩, hr⟩
    · split
      · next hk =>
        subst hk
        split
        · cases rest with
          | nil => rfl
          | cons e2 rest2 =>
            obtain ⟨k2, w2⟩ := e2
            simp only [Memory.wfFrom, Bool.and_eq_true, decide_eq_true_eq] at hr ⊢
            exact ⟨⟨⟨by omega, hr.1.1.2⟩, hr.1.2⟩, hr.2⟩
        · next hv =>
          simp only [Memory.wfFrom, Bool.and_eq_true, decide_eq_true_eq]
          exact ⟨⟨⟨hl, ha⟩, hv⟩, hr⟩
      · next hk =>
        simp only [Memory.wfFrom, Bool.and_eq_true, decide_eq_true_eq]
        exact ⟨⟨⟨hlk, hks⟩, hw⟩, ih (k + 1) hr (by omega)⟩

/-- A write inside the array keeps its canonical form. -/
theorem Memory.wf_write {size : Nat} {m : Memory} (h : m.wf size = true) (a : Nat) (v : Byte) (ha : a < size) :
    (Memory.write m a v).wf size = true := Memory.wfFrom_write size 0 m h a v (Nat.zero_le _) ha

/-- The seven parts of a canonical `Mem`. -/
theorem Mem.wf_iff (v : Variant) (m : Mem) :
    m.wf v = true ↔ m.vram.wf (vramSize v) = true ∧ m.wram.wf (wramSize v) = true ∧ m.oam.wf 160 = true ∧
      m.hram.wf 127 = true ∧ m.snd.wf 48 = true ∧ m.bgPal.wf 64 = true ∧ m.objPal.wf 64 = true := by
  simp [Mem.wf, and_assoc]

end Sys2Proof.Machine
end

