-- ==== Sys2Proof/Laws/Locate.lean ====
section
/-! SUPPORT. The laws of address decoding: which handler each region has, and what the choice depends on. -/

namespace Sys2Proof.Machine

/-- Decoding depends on the variant and the two bank selects alone. -/
theorem locate_congr {s t : State} (hv : t.launch.variant = s.launch.variant) (hb : t.ppu.vbk = s.ppu.vbk)
    (hw : t.svbk = s.svbk) (a : Word) : locate t a = locate s a := by
  have h1 : vramBank t = vramBank s := by unfold vramBank; rw [hv, hb]
  have h2 : wramBank t = wramBank s := by unfold wramBank; rw [hv, hw]
  have h3 : locateWram t = locateWram s := by funext n; unfold locateWram; rw [h2]
  unfold locate
  rw [hv, h1, h3]

theorem locate_rom {s : State} {a : Word} (h : a.toNat < 0x8000) : locate s a = .cartRom a.toNat := by
  unfold locate; rw [if_pos h]

theorem locate_vram {s : State} {a : Word} (h1 : 0x8000 ≤ a.toNat) (h2 : a.toNat < 0xA000) :
    locate s a = .vram (vramBank s * 0x2000 + (a.toNat - 0x8000)) := by
  unfold locate; rw [if_neg (by omega), if_pos h2]

theorem locate_cartRam {s : State} {a : Word} (h1 : 0xA000 ≤ a.toNat) (h2 : a.toNat < 0xC000) :
    locate s a = .cartRam a.toNat := by
  unfold locate
  iterate 2 rw [if_neg (by omega)]
  rw [if_pos h2]

theorem locate_wram0 {s : State} {a : Word} (h1 : 0xC000 ≤ a.toNat) (h2 : a.toNat < 0xD000) :
    locate s a = .wram (a.toNat - 0xC000) := by
  unfold locate
  iterate 3 rw [if_neg (by omega)]
  rw [if_pos (by omega)]
  unfold locateWram; rw [if_pos h2]

theorem locate_wram1 {s : State} {a : Word} (h1 : 0xD000 ≤ a.toNat) (h2 : a.toNat < 0xE000) :
    locate s a = .wram (wramBank s * 0x1000 + (a.toNat - 0xD000)) := by
  unfold locate
  iterate 3 rw [if_neg (by omega)]
  rw [if_pos h2]
  unfold locateWram; rw [if_neg (by omega)]

theorem echo_toNat {a : Word} (h1 : 0xE000 ≤ a.toNat) : (a - 0x2000).toNat = a.toNat - 0x2000 := by
  have := a.isLt
  rw [BitVec.toNat_sub, show (0x2000 : Word).toNat = 0x2000 from rfl]
  omega

/-- The next address, below the top. -/
theorem succ_toNat {a : Word} (h : a.toNat ≠ 0xFFFF) : (a + 1).toNat = a.toNat + 1 := by
  have := a.isLt
  rw [BitVec.toNat_add, show (1 : Word).toNat = 1 from rfl]
  omega

/-- An echo address is decoded as its work-RAM address (R85). -/
theorem locate_echo {s : State} {a : Word} (h1 : 0xE000 ≤ a.toNat) (h2 : a.toNat < 0xFE00) :
    locate s a = locate s (a - 0x2000) := by
  have hn := echo_toNat h1
  unfold locate
  rw [hn]
  iterate 4 rw [if_neg (by omega)]
  rw [if_pos h2]
  iterate 3 rw [if_neg (by omega)]
  rw [if_pos (by omega)]

theorem locate_oam {s : State} {a : Word} (h1 : 0xFE00 ≤ a.toNat) (h2 : a.toNat < 0xFEA0) :
    locate s a = .oam (a.toNat - 0xFE00) := by
  unfold locate
  iterate 5 rw [if_neg (by omega)]
  rw [if_pos h2]

theorem locate_noop {s : State} {a : Word} (h1 : 0xFEA0 ≤ a.toNat) (h2 : a.toNat < 0xFF00) : locate s a = .none := by
  unfold locate
  iterate 6 rw [if_neg (by omega)]
  rw [if_pos h2]

theorem locate_io {s : State} {a : Word} (h1 : 0xFF00 ≤ a.toNat) (h2 : a.toNat < 0xFF80) :
    locate s a = locateIo s.launch.variant a.toNat := by
  unfold locate
  iterate 7 rw [if_neg (by omega)]
  rw [if_pos h2]

theorem locate_hram {s : State} {a : Word} (h1 : 0xFF80 ≤ a.toNat) (h2 : a.toNat < 0xFFFF) :
    locate s a = .hram (a.toNat - 0xFF80) := by
  unfold locate
  iterate 8 rw [if_neg (by omega)]
  rw [if_pos h2]

theorem locate_ie {s : State} {a : Word} (h : a.toNat = 0xFFFF) : locate s a = .ie := by
  unfold locate
  iterate 9 rw [if_neg (by omega)]

/-- Sound storage is the 48 addresses from 0xFF10 (R90). -/
theorem locateIo_snd (v : Variant) {n : Nat} (h1 : 0xFF10 ≤ n) (h2 : n < 0xFF40) :
    locateIo v n = .snd (n - 0xFF10) := by
  unfold locateIo
  iterate 8 rw [if_neg (by omega)]
  rw [if_pos h2]

/-- The facts about the I/O window that the laws below use, checked on its 128 addresses: what can stand there. -/
def ioWindowOk (v : Variant) (n : Nat) : Bool :=
  match locateIo v n with
  | .ext k => k == n
  | .unmapped k => k == n
  | .snd i => decide (i < 48)
  | .io r => decide (v = .cgb) ||
      decide (r ∉ ([.vbk, .hdma1, .hdma2, .hdma3, .hdma4, .hdma5, .bcps, .bcpd, .ocps, .ocpd, .svbk] : List IoReg))
  | _ => false

theorem ioWindow_ok (v : Variant) : ∀ k, k < 128 → ioWindowOk v (0xFF00 + k) = true := by
  cases v <;> decide

/-- The RAM cells of the I/O window are sound storage. -/
def ioNoRam (v : Variant) (n : Nat) : Bool :=
  match locateIo v n with
  | .snd _ => decide (0xFF10 ≤ n ∧ n < 0xFF40)
  | .vram _ => false
  | .wram _ => false
  | .oam _ => false
  | .hram _ => false
  | _ => true

theorem ioWindow_noRam (v : Variant) : ∀ k, k < 128 → ioNoRam v (0xFF00 + k) = true := by
  cases v <;> decide

/-- What stands behind an address of the I/O window. -/
theorem locateIo_cases (v : Variant) {n : Nat} (h1 : 0xFF00 ≤ n) (h2 : n < 0xFF80) : ioWindowOk v n = true := by
  have := ioWindow_ok v (n - 0xFF00) (by omega)
  rwa [show 0xFF00 + (n - 0xFF00) = n by omega] at this

/-- The bank of video RAM lies inside the array. -/
theorem vramBank_bound (s : State) : vramBank s * 0x2000 + 0x2000 ≤ vramSize s.launch.variant := by
  unfold vramBank vramSize
  have := s.ppu.vbk.isLt
  cases s.launch.variant <;> simp <;> omega

/-- The switchable bank of work RAM lies inside the array and is not bank 0. -/
theorem wramBank_bound (s : State) :
    1 ≤ wramBank s ∧ wramBank s * 0x1000 + 0x1000 ≤ wramSize s.launch.variant := by
  unfold wramBank wramSize
  have := s.svbk.isLt
  cases s.launch.variant
  · simp
  · simp only [if_true]
    split
    · simp
    · next h =>
      have : s.svbk.toNat ≠ 0 := fun e => h (BitVec.eq_of_toNat_eq (by simpa using e))
      omega

/-- The region an address lies in (R71). -/
inductive Region (a : Word) : Prop
  | rom (h : a.toNat < 0x8000)
  | vram (low : 0x8000 ≤ a.toNat) (high : a.toNat < 0xA000)
  | cartRam (low : 0xA000 ≤ a.toNat) (high : a.toNat < 0xC000)
  | wram0 (low : 0xC000 ≤ a.toNat) (high : a.toNat < 0xD000)
  | wram1 (low : 0xD000 ≤ a.toNat) (high : a.toNat < 0xE000)
  | echo (low : 0xE000 ≤ a.toNat) (high : a.toNat < 0xFE00)
  | oam (low : 0xFE00 ≤ a.toNat) (high : a.toNat < 0xFEA0)
  | noop (low : 0xFEA0 ≤ a.toNat) (high : a.toNat < 0xFF00)
  | io (low : 0xFF00 ≤ a.toNat) (high : a.toNat < 0xFF80)
  | hram (low : 0xFF80 ≤ a.toNat) (high : a.toNat < 0xFFFF)
  | ie (h : a.toNat = 0xFFFF)

/-- Every address lies in one. -/
theorem region (a : Word) : Region a := by
  have := a.isLt
  rcases Nat.lt_or_ge a.toNat 0xE000 with h | h
  · rcases Nat.lt_or_ge a.toNat 0xC000 with h2 | h2
    · by_cases h3 : a.toNat < 0x8000
      · exact .rom h3
      · by_cases h4 : a.toNat < 0xA000
        · exact .vram (by omega) h4
        · exact .cartRam (by omega) h2
    · by_cases h3 : a.toNat < 0xD000
      · exact .wram0 h2 h3
      · exact .wram1 (by omega) h
  · rcases Nat.lt_or_ge a.toNat 0xFF00 with h2 | h2
    · by_cases h3 : a.toNat < 0xFE00
      · exact .echo h h3
      · by_cases h4 : a.toNat < 0xFEA0
        · exact .oam (by omega) h4
        · exact .noop (by omega) h2
    · by_cases h3 : a.toNat < 0xFF80
      · exact .io h2 h3
      · by_cases h4 : a.toNat = 0xFFFF
        · exact .ie h4
        · exact .hram (by omega) (by omega)

/-- The cell that decoding selects lies inside its array, and a Color register only on the Color console. -/
def locOk (s : State) (n : Nat) : Loc → Prop
  | .cartRom k => k = n ∧ n < 0x8000
  | .cartRam k => k = n
  | .vram i => i < vramSize s.launch.variant
  | .wram i => i < wramSize s.launch.variant
  | .oam i => i < 160
  | .hram i => i < 127
  | .snd i => i < 48
  | .none => True
  | .ext k => k = n
  | .io r => s.launch.variant = .cgb ∨
      r ∉ ([.vbk, .hdma1, .hdma2, .hdma3, .hdma4, .hdma5, .bcps, .bcpd, .ocps, .ocpd, .svbk] : List IoReg)
  | .unmapped k => k = n
  | .ie => True

theorem locate_ok (s : State) (a : Word) : locOk s a.toNat (locate s a) := by
  have hv := vramBank_bound s
  have hw := wramBank_bound s
  have hwram : ∀ b : Word, 0xC000 ≤ b.toNat → b.toNat < 0xE000 →
      ∃ i, locate s b = .wram i ∧ i < wramSize s.launch.variant := by
    intro b h1 h2
    by_cases h : b.toNat < 0xD000
    · exact ⟨_, locate_wram0 h1 h, by omega⟩
    · exact ⟨_, locate_wram1 (by omega) h2, by omega⟩
  cases region a with
  | rom h => rw [locate_rom h]; exact ⟨rfl, h⟩
  | vram h h' => rw [locate_vram h h']; show _ < _; omega
  | cartRam h h' => rw [locate_cartRam h h']; rfl
  | wram0 h h' => obtain ⟨i, e, hi⟩ := hwram a h (by omega); rw [e]; exact hi
  | wram1 h h' => obtain ⟨i, e, hi⟩ := hwram a (by omega) h'; rw [e]; exact hi
  | echo h h' =>
    rw [locate_echo h h']
    have hn := echo_toNat h
    obtain ⟨i, e, hi⟩ := hwram (a - 0x2000) (by omega) (by omega)
    rw [e]; exact hi
  | oam h h' => rw [locate_oam h h']; show _ < _; omega
  | noop h h' => rw [locate_noop h h']; trivial
  | io h h' =>
    rw [locate_io h h']
    have := locateIo_cases s.launch.variant h h'
    unfold ioWindowOk at this
    cases hl : locateIo s.launch.variant a.toNat <;> rw [hl] at this <;> simp_all [locOk]
  | hram h h' => rw [locate_hram h h']; show _ < _; omega
  | ie h => rw [locate_ie h]; trivial

/-- Outside the I/O window nothing is unmapped; inside, the variant alone decides. -/
theorem isUnmapped_eq (s : State) (a : Word) :
    isUnmapped s a = (decide (0xFF00 ≤ a.toNat ∧ a.toNat < 0xFF80) &&
      match locateIo s.launch.variant a.toNat with
      | .unmapped _ => true
      | _ => false) := by
  unfold isUnmapped
  by_cases hio : 0xFF00 ≤ a.toNat ∧ a.toNat < 0xFF80
  · rw [locate_io hio.1 hio.2]; simp only [hio, and_self, decide_true, Bool.true_and] <;> rfl
  · simp only [hio, decide_false, Bool.false_and]
    have hwram : ∀ b : Word, 0xC000 ≤ b.toNat → b.toNat < 0xE000 → ∃ i, locate s b = .wram i := by
      intro b h1 h2
      by_cases h : b.toNat < 0xD000
      · exact ⟨_, locate_wram0 h1 h⟩
      · exact ⟨_, locate_wram1 (by omega) h2⟩
    cases region a with
    | rom h => rw [locate_rom h]
    | vram h h' => rw [locate_vram h h']
    | cartRam h h' => rw [locate_cartRam h h']
    | wram0 h h' => rw [locate_wram0 h h']
    | wram1 h h' => rw [locate_wram1 h h']
    | echo h h' =>
      rw [locate_echo h h']
      have hn := echo_toNat h
      obtain ⟨i, e⟩ := hwram (a - 0x2000) (by omega) (by omega)
      rw [e]
    | oam h h' => rw [locate_oam h h']
    | noop h h' => rw [locate_noop h h']
    | io h h' => exact absurd ⟨h, h'⟩ hio
    | hram h h' => rw [locate_hram h h']
    | ie h => rw [locate_ie h]

/-- Whether an address is unmapped depends on the variant alone. -/
theorem isUnmapped_congr {s t : State} (hl : t.launch.variant = s.launch.variant) (a : Word) :
    isUnmapped t a = isUnmapped s a := by
  rw [isUnmapped_eq, isUnmapped_eq, hl]

/-- Whether a read completes depends on the launch parameters alone. -/
theorem canRead_congr {s t : State} (hl : t.launch = s.launch) (a : Word) : canRead t a = canRead s a := by
  have h := isUnmapped_congr (s := s) (t := t) (by rw [hl]) a
  unfold canRead; rw [h, hl]

/-- Neighbouring RAM cells are two cells. -/
theorem isRam_succ_ne (s : State) (a : Word) (h : isRam s a = true) : locate s (a + 1) ≠ locate s a := by
  have hb := wramBank_bound s
  have hr : isRam s a = true := h
  unfold isRam at hr
  cases region a with
  | rom h => rw [locate_rom h] at hr; cases hr
  | vram h h' =>
    rw [locate_vram h h']
    have hs := succ_toNat (a := a) (by omega)
    by_cases he : (a + 1).toNat < 0xA000
    · rw [locate_vram (by omega) he]; simp only [ne_eq, Loc.vram.injEq]; omega
    · rw [locate_cartRam (by omega) (by omega)]; simp
  | cartRam h h' => rw [locate_cartRam h h'] at hr; cases hr
  | wram0 h h' =>
    rw [locate_wram0 h h']
    have hs := succ_toNat (a := a) (by omega)
    by_cases he : (a + 1).toNat < 0xD000
    · rw [locate_wram0 (by omega) he]; simp only [ne_eq, Loc.wram.injEq]; omega
    · rw [locate_wram1 (by omega) (by omega)]; simp only [ne_eq, Loc.wram.injEq]; omega
  | wram1 h h' =>
    rw [locate_wram1 h h']
    have hs := succ_toNat (a := a) (by omega)
    by_cases he : (a + 1).toNat < 0xE000
    · rw [locate_wram1 (by omega) he]; simp only [ne_eq, Loc.wram.injEq]; omega
    · rw [locate_echo (by omega) (by omega)]
      have hn := echo_toNat (a := a + 1) (by omega)
      rw [locate_wram0 (by omega) (by omega)]; simp only [ne_eq, Loc.wram.injEq]; omega
  | echo h h' =>
    have hs := succ_toNat (a := a) (by omega)
    have hn := echo_toNat h
    rw [locate_echo h h']
    by_cases he : (a + 1).toNat < 0xFE00
    · have hn' := echo_toNat (a := a + 1) (by omega)
      rw [locate_echo (by omega) he]
      by_cases h3 : (a - 0x2000).toNat < 0xD000
      · rw [locate_wram0 (by omega) h3]
        by_cases h4 : (a + 1 - 0x2000).toNat < 0xD000
        · rw [locate_wram0 (by omega) h4]; simp only [ne_eq, Loc.wram.injEq]; omega
        · rw [locate_wram1 (by omega) (by omega)]; simp only [ne_eq, Loc.wram.injEq]; omega
      · rw [locate_wram1 (a := a - 0x2000) (by omega) (by omega), locate_wram1 (by omega) (by omega)]
        simp only [ne_eq, Loc.wram.injEq]; omega
    · rw [locate_oam (by omega) (by omega)]
      by_cases h3 : (a - 0x2000).toNat < 0xD000
      · rw [locate_wram0 (by omega) h3]; simp
      · rw [locate_wram1 (by omega) (by omega)]; simp
  | oam h h' =>
    rw [locate_oam h h']
    have hs := succ_toNat (a := a) (by omega)
    by_cases he : (a + 1).toNat < 0xFEA0
    · rw [locate_oam (by omega) he]; simp only [ne_eq, Loc.oam.injEq]; omega
    · rw [locate_noop (by omega) (by omega)]; simp
  | noop h h' => rw [locate_noop h h'] at hr; cases hr
  | io h h' =>
    have hs := succ_toNat (a := a) (by omega)
    by_cases hsnd : 0xFF10 ≤ a.toNat ∧ a.toNat < 0xFF40
    · rw [locate_io h h', locateIo_snd _ hsnd.1 hsnd.2]
      by_cases he : (a + 1).toNat < 0xFF40
      · rw [locate_io (by omega) (by omega), locateIo_snd _ (by omega) he]
        simp only [ne_eq, Loc.snd.injEq]; omega
      · rw [locate_io (by omega) (by omega), show (a + 1).toNat = 0xFF40 by omega]
        have : locateIo s.launch.variant 0xFF40 = .io .lcdc := rfl
        rw [this]; simp
    · rw [locate_io h h'] at hr
      have := ioWindow_noRam s.launch.variant (a.toNat - 0xFF00) (by omega)
      rw [show 0xFF00 + (a.toNat - 0xFF00) = a.toNat by omega] at this
      unfold ioNoRam at this
      cases hl : locateIo s.launch.variant a.toNat <;> rw [hl] at this hr <;>
        first
          | exact absurd (of_decide_eq_true this) hsnd
          | (simp at hr; done)
          | (simp at this; done)
  | hram h h' =>
    rw [locate_hram h h']
    have hs := succ_toNat (a := a) (by omega)
    by_cases he : (a + 1).toNat < 0xFFFF
    · rw [locate_hram (by omega) he]; simp only [ne_eq, Loc.hram.injEq]; omega
    · rw [locate_ie (by omega)]; simp
  | ie h => rw [locate_ie h] at hr; cases hr

end Sys2Proof.Machine
end

