-- ==== Sys2Proof/Laws/Bus.lean ====
section
/-! SUPPORT. The laws of the bus: when an access completes, and all that a write can
change. -/

namespace Sys2Proof.Machine

/-- The bank selects are set or kept, never read, by a change of the CPU. -/
@[simp] theorem locate_cpu (s : State) (c : Cpu) (a : Word) : locate { s with cpu := c } a = locate s a := rfl

/-- A read does not look at the CPU or at the fault. -/
@[simp] theorem memRead_cpu (s : State) (c : Cpu) (a : Word) : memRead { s with cpu := c } a = memRead s a := rfl

@[simp] theorem memRead_fault (s : State) (f : Option Fault) (a : Word) :
    memRead { s with fault := f } a = memRead s a := rfl

@[simp] theorem locate_fault (s : State) (f : Option Fault) (a : Word) :
    locate { s with fault := f } a = locate s a := rfl

/-- A read gives a byte unless its address is unmapped under the fatal policy. -/
theorem memRead_cases (s : State) (a : Word) :
    (canRead s a = true ∧ ∃ b, memRead s a = .ok b) ∨
    (canRead s a = false ∧ isUnmapped s a = true ∧ s.launch.unmappedPolicy = .fatal ∧
      memRead s a = .error (.unmappedAddress a false)) := by
  unfold canRead isUnmapped memRead
  cases locate s a <;> simp
  cases s.launch.unmappedPolicy <;> simp

theorem memRead_ok_iff (s : State) (a : Word) : (∃ b, memRead s a = .ok b) ↔ canRead s a = true := by
  rcases memRead_cases s a with ⟨h, b, hb⟩ | ⟨h, _, _, hb⟩ <;> simp [h, hb]

/-! ### The DMA loops -/

theorem canReadBlock_iff (s : State) (base : Word) (n : Nat) :
    canReadBlock s base n = true ↔ ∀ k, k < n → canRead s (base + BitVec.ofNat 16 k) = true := by
  simp [canReadBlock]

/-- The OAM copy changes OAM alone. -/
theorem oamDmaCopy_frame (k i : Nat) (base : Word) (s t : State) (h : oamDmaCopy k i base s = .ok t) :
    t = { s with mem := { s.mem with oam := t.mem.oam } } := by
  induction k generalizing i s with
  | zero => simp only [oamDmaCopy, Except.ok.injEq] at h; subst h; rfl
  | succ k ih =>
    simp only [oamDmaCopy] at h
    split at h
    · cases h
    · have := ih _ _ h; rw [this]; rfl

/-- The OAM copy completes when its source can be read. -/
theorem oamDmaCopy_ok (k i : Nat) (base : Word) (s : State)
    (h : ∀ j, i ≤ j → j < i + k → canRead s (base + BitVec.ofNat 16 j) = true) :
    ∃ t, oamDmaCopy k i base s = .ok t := by
  induction k generalizing i s with
  | zero => exact ⟨s, rfl⟩
  | succ k ih =>
    obtain ⟨b, hb⟩ := (memRead_ok_iff s _).2 (h i (Nat.le_refl _) (by omega))
    simp only [oamDmaCopy, hb]
    refine ih _ _ fun j hj hj' => ?_
    exact (canRead_congr (s := s) rfl _).trans (h j (by omega) (by omega))

/-- The OAM copy raises a `Fatal` when one of its source bytes cannot be read. -/
theorem oamDmaCopy_error (k i : Nat) (base : Word) (s : State) (j : Nat) (hj : i ≤ j) (hj' : j < i + k)
    (h : canRead s (base + BitVec.ofNat 16 j) = false) : ∃ f, oamDmaCopy k i base s = .error f := by
  induction k generalizing i s with
  | zero => omega
  | succ k ih =>
    simp only [oamDmaCopy]
    rcases memRead_cases s (base + BitVec.ofNat 16 i) with ⟨hc, b, hb⟩ | ⟨_, _, _, hb⟩
    · simp only [hb]
      have hne : i ≠ j := fun e => by subst e; rw [h] at hc; cases hc
      refine ih (i + 1) _ (by omega) (by omega) ?_
      exact (canRead_congr (s := s) rfl _).trans h
    · simp [hb]

/-- The OAM copy keeps the canonical form of OAM. -/
theorem oamDmaCopy_wf (k i : Nat) (base : Word) (s t : State) (h : oamDmaCopy k i base s = .ok t)
    (hw : s.mem.oam.wf 160 = true) (hk : i + k ≤ 160) : t.mem.oam.wf 160 = true := by
  induction k generalizing i s with
  | zero => simp only [oamDmaCopy, Except.ok.injEq] at h; subst h; exact hw
  | succ k ih =>
    simp only [oamDmaCopy] at h
    split at h
    · cases h
    · exact ih _ _ h (Memory.wf_write hw i _ (by omega)) (by omega)

/-- The OAM copy does not depend on the CPU. -/
theorem oamDmaCopy_cpu (k i : Nat) (base : Word) (s : State) (c : Cpu) :
    oamDmaCopy k i base { s with cpu := c } =
      (match oamDmaCopy k i base s with
        | .ok t => .ok { t with cpu := c }
        | .error f => .error f) := by
  induction k generalizing i s with
  | zero => rfl
  | succ k ih =>
    simp only [oamDmaCopy, memRead_cpu]
    split
    · rfl
    · exact ih _ (setOam s i _)

/-- A chunk of VRAM DMA changes video RAM alone. -/
theorem copyBytes_frame (k i : Nat) (src dst : Word) (s t : State) (h : copyBytes k i src dst s = .ok t) :
    t = { s with mem := { s.mem with vram := t.mem.vram } } := by
  induction k generalizing i s with
  | zero => simp only [copyBytes, Except.ok.injEq] at h; subst h; rfl
  | succ k ih =>
    simp only [copyBytes] at h
    split at h
    · cases h
    · have := ih _ _ h; rw [this]; rfl

theorem copyBytes_ok (k i : Nat) (src dst : Word) (s : State)
    (h : ∀ j, i ≤ j → j < i + k → canRead s (src + BitVec.ofNat 16 j) = true) :
    ∃ t, copyBytes k i src dst s = .ok t := by
  induction k generalizing i s with
  | zero => exact ⟨s, rfl⟩
  | succ k ih =>
    obtain ⟨b, hb⟩ := (memRead_ok_iff s _).2 (h i (Nat.le_refl _) (by omega))
    simp only [copyBytes, hb]
    refine ih _ _ fun j hj hj' => ?_
    exact (canRead_congr (s := s) rfl _).trans (h j (by omega) (by omega))

theorem copyBytes_error (k i : Nat) (src dst : Word) (s : State) (j : Nat) (hj : i ≤ j) (hj' : j < i + k)
    (h : canRead s (src + BitVec.ofNat 16 j) = false) : ∃ f, copyBytes k i src dst s = .error f := by
  induction k generalizing i s with
  | zero => omega
  | succ k ih =>
    simp only [copyBytes]
    rcases memRead_cases s (src + BitVec.ofNat 16 i) with ⟨hc, b, hb⟩ | ⟨_, _, _, hb⟩
    · simp only [hb]
      have hne : i ≠ j := fun e => by subst e; rw [h] at hc; cases hc
      refine ih (i + 1) _ (by omega) (by omega) ?_
      exact (canRead_congr (s := s) rfl _).trans h
    · simp [hb]

theorem copyBytes_wf (k i : Nat) (src dst : Word) (s t : State) (h : copyBytes k i src dst s = .ok t)
    (hw : s.mem.vram.wf 0x4000 = true) : t.mem.vram.wf 0x4000 = true := by
  induction k generalizing i s with
  | zero => simp only [copyBytes, Except.ok.injEq] at h; subst h; exact hw
  | succ k ih =>
    simp only [copyBytes] at h
    split at h
    · cases h
    · refine ih _ _ h (Memory.wf_write hw _ _ ?_)
      have := s.ppu.vbk.isLt
      omega

theorem copyBytes_cpu (k i : Nat) (src dst : Word) (s : State) (c : Cpu) :
    copyBytes k i src dst { s with cpu := c } =
      (match copyBytes k i src dst s with
        | .ok t => .ok { t with cpu := c }
        | .error f => .error f) := by
  induction k generalizing i s with
  | zero => rfl
  | succ k ih =>
    simp only [copyBytes, memRead_cpu]
    split
    · rfl
    · exact ih _ (setVram s _ _)

/-- `16 * n` bytes of VRAM DMA change video RAM alone. -/
theorem copyChunks_frame (n : Nat) (src dst : Word) (s t : State) (h : copyChunks n src dst s = .ok t) :
    t = { s with mem := { s.mem with vram := t.mem.vram } } := by
  induction n generalizing src dst s with
  | zero => simp only [copyChunks, Except.ok.injEq] at h; subst h; rfl
  | succ n ih =>
    simp only [copyChunks] at h
    split at h
    · cases h
    · next u hu =>
      rw [ih _ _ _ h, copyBytes_frame 16 0 src dst s u hu]

/-- The addresses of the chunks are consecutive. -/
theorem chunk_addr (src : Word) (j : Nat) : src + 16 + BitVec.ofNat 16 j = src + BitVec.ofNat 16 (16 + j) := by
  apply BitVec.eq_of_toNat_eq
  simp only [BitVec.toNat_add, BitVec.toNat_ofNat, show (16 : Word).toNat = 16 from rfl]
  omega

theorem copyChunks_ok (n : Nat) (src dst : Word) (s : State)
    (h : ∀ j, j < 16 * n → canRead s (src + BitVec.ofNat 16 j) = true) : ∃ t, copyChunks n src dst s = .ok t := by
  induction n generalizing src dst s with
  | zero => exact ⟨s, rfl⟩
  | succ n ih =>
    obtain ⟨u, hu⟩ := copyBytes_ok 16 0 src dst s fun j _ hj => h j (by omega)
    simp only [copyChunks, copyChunk, hu]
    refine ih _ _ _ fun j hj => ?_
    have hf := copyBytes_frame 16 0 src dst s u hu
    rw [chunk_addr]
    exact (canRead_congr (s := s) (by rw [hf]) _).trans (h (16 + j) (by omega))

theorem copyChunks_error (n : Nat) (src dst : Word) (s : State) (j : Nat) (hj : j < 16 * n)
    (h : canRead s (src + BitVec.ofNat 16 j) = false) : ∃ f, copyChunks n src dst s = .error f := by
  induction n generalizing src dst s j with
  | zero => omega
  | succ n ih =>
    simp only [copyChunks, copyChunk]
    cases hc : copyBytes 16 0 src dst s with
    | error f => exact ⟨f, rfl⟩
    | ok u =>
      have hj16 : 16 ≤ j := by
        by_contra hlt
        obtain ⟨f, hf⟩ := copyBytes_error 16 0 src dst s j (by omega) (by omega) h
        rw [hc] at hf; cases hf
      refine ih (src + 16) _ u (j - 16) (by omega) ?_
      have hf := copyBytes_frame 16 0 src dst s u hc
      rw [chunk_addr, show 16 + (j - 16) = j by omega]
      exact (canRead_congr (s := s) (by rw [hf]) _).trans h

theorem copyChunks_wf (n : Nat) (src dst : Word) (s t : State) (h : copyChunks n src dst s = .ok t)
    (hw : s.mem.vram.wf 0x4000 = true) : t.mem.vram.wf 0x4000 = true := by
  induction n generalizing src dst s with
  | zero => simp only [copyChunks, Except.ok.injEq] at h; subst h; exact hw
  | succ n ih =>
    simp only [copyChunks] at h
    split at h
    · cases h
    · next u hu => exact ih _ _ _ h (copyBytes_wf 16 0 src dst s u hu hw)

theorem copyChunks_cpu (n : Nat) (src dst : Word) (s : State) (c : Cpu) :
    copyChunks n src dst { s with cpu := c } =
      (match copyChunks n src dst s with
        | .ok t => .ok { t with cpu := c }
        | .error f => .error f) := by
  induction n generalizing src dst s with
  | zero => rfl
  | succ n ih =>
    simp only [copyChunks, copyChunk, copyBytes_cpu]
    cases copyBytes 16 0 src dst s with
    | error f => rfl
    | ok u => exact ih _ _ u

/-! ### Writes -/

/-- A write does not depend on the CPU and does not change it. -/
theorem memWrite_cpu (s : State) (c : Cpu) (a : Word) (v : Byte) :
    memWrite { s with cpu := c } a v =
      (match memWrite s a v with
        | .ok t => .ok { t with cpu := c }
        | .error f => .error f) := by
  unfold memWrite
  rw [locate_cpu]
  cases hl : locate s a with
  | io r =>
    cases r with
    | dma =>
      simp only [ioWrite, dmaWrite]
      split
      · rfl
      · exact oamDmaCopy_cpu 160 0 _ { s with ppu := { s.ppu with dma := v } } c
    | hdma5 =>
      simp only [ioWrite, hdma5Write]
      split
      · rfl
      · split
        · rfl
        · rw [copyChunks_cpu]
          cases copyChunks (v.toNat % 128 + 1) (hdmaSrc0 s.ppu.hdma) (hdmaDst0 s.ppu.hdma) s <;> rfl
    | _ => rfl
  | unmapped n => cases s.launch.unmappedPolicy <;> simp
  | cartRom n => simp only [cartRomWrite]; split <;> rfl
  | cartRam n => simp only [cartRamWrite]; split <;> rfl
  | ext n => simp only [extWrite]; split <;> rfl
  | _ => rfl

/-- A write completes exactly when `canWrite` says so. -/
theorem memWrite_ok_iff (s : State) (a : Word) (v : Byte) : (∃ t, memWrite s a v = .ok t) ↔ canWrite s a v = true := by
  unfold memWrite canWrite
  cases locate s a with
  | unmapped n => cases s.launch.unmappedPolicy <;> simp
  | io r =>
    cases r with
    | dma =>
      simp only [ioWrite, dmaWrite]
      by_cases hv : v = 0
      · simp [hv]
      · simp only [if_neg hv]
        constructor
        · rintro ⟨t, ht⟩
          simp only [Bool.or_eq_true, beq_iff_eq, hv, false_or, canReadBlock_iff]
          intro k hk
          by_contra hc
          obtain ⟨f, hf⟩ := oamDmaCopy_error 160 0 (pair v 0) { s with ppu := { s.ppu with dma := v } } k
            (by omega) (by omega) ((canRead_congr (s := s) rfl _).trans (by simpa using hc))
          rw [ht] at hf; cases hf
        · intro h
          simp only [Bool.or_eq_true, beq_iff_eq, hv, false_or, canReadBlock_iff] at h
          refine oamDmaCopy_ok 160 0 _ _ fun j _ hj => ?_
          exact (canRead_congr (s := s) rfl _).trans (h j (by omega))
    | hdma5 =>
      simp only [ioWrite, hdma5Write]
      by_cases hb : bit v 7 = true
      · simp [hb]
      · rw [if_neg hb]
        by_cases ha : s.ppu.hdma.active = true
        · simp [ha]
        · rw [if_neg ha]
          simp only [Bool.not_eq_true] at hb ha
          simp only [hb, ha, Bool.false_or, canReadBlock_iff]
          constructor
          · rintro ⟨t, ht⟩ k hk
            by_contra hc
            obtain ⟨f, hf⟩ := copyChunks_error (v.toNat % 128 + 1) (hdmaSrc0 s.ppu.hdma) (hdmaDst0 s.ppu.hdma) s k hk
              (by simpa using hc)
            rw [hf] at ht; cases ht
          · intro h
            obtain ⟨t, ht⟩ := copyChunks_ok (v.toNat % 128 + 1) (hdmaSrc0 s.ppu.hdma) (hdmaDst0 s.ppu.hdma) s h
            simp [ht]
    | _ => simp [ioWrite]
  | _ => simp

theorem memWrite_error_iff (s : State) (a : Word) (v : Byte) :
    (∃ f, memWrite s a v = .error f) ↔ canWrite s a v = false := by
  have h := memWrite_ok_iff s a v
  cases hm : memWrite s a v with
  | ok t => rw [hm] at h; simp at h; simp [h]
  | error f => rw [hm] at h; simp at h; simp [h]

/-- Everything a completed write keeps. The two loops can only change OAM or video RAM. -/
structure WriteKeeps (s t : State) : Prop where
  cpu : t.cpu = s.cpu
  launch : t.launch = s.launch
  fault : t.fault = s.fault
  divAcc : t.timer.divAcc = s.timer.divAcc
  timaAcc : t.timer.timaAcc = s.timer.timaAcc
  div : t.timer.div = s.timer.div ∨ t.timer.div = 0
  stat : t.ppu.stat &&& 0x07 = s.ppu.stat &&& 0x07
  ly : t.ppu.ly = s.ppu.ly ∨ t.ppu.ly = 0
  cycles : t.ppu.cycles = s.ppu.cycles
  framebuffer : t.ppu.framebuffer = s.ppu.framebuffer
  framesOut : t.ppu.framesOut = s.ppu.framesOut
  rom : ∀ rom, s.cart = .noController rom → t.cart = s.cart
  supplied : (∃ cs, s.cart = .supplied cs) → ∃ cs, t.cart = .supplied cs
  extScripted : ∀ p, s.ext = .scripted p → t.ext = s.ext

theorem WriteKeeps.refl (s : State) : WriteKeeps s s :=
  ⟨rfl, rfl, rfl, rfl, rfl, .inl rfl, rfl, .inl rfl, rfl, rfl, rfl, fun _ _ => rfl, id, fun _ _ => rfl⟩

/-- A completed write keeps what `WriteKeeps` lists. -/
theorem memWrite_keeps {s t : State} {a : Word} {v : Byte} (h : memWrite s a v = .ok t) : WriteKeeps s t := by
  unfold memWrite at h
  cases hl : locate s a with
  | io r =>
    rw [hl] at h
    cases r with
    | dma =>
      simp only [ioWrite, dmaWrite] at h
      split at h
      · cases h; constructor <;> simp_all
      · obtain ⟨o, ho⟩ : ∃ o, t = { s with ppu := { s.ppu with dma := v }, mem := { s.mem with oam := o } } :=
          ⟨_, oamDmaCopy_frame _ _ _ _ _ h⟩
        clear h; subst ho; constructor <;> simp_all
    | hdma5 =>
      simp only [ioWrite, hdma5Write] at h
      split at h
      · cases h; constructor <;> simp_all
      · split at h
        · cases h; constructor <;> simp_all
        · split at h
          · cases h
          · next u hu =>
            obtain ⟨o, ho⟩ : ∃ o, u = { s with mem := { s.mem with vram := o } } := ⟨_, copyChunks_frame _ _ _ _ _ hu⟩
            cases h; clear hu; subst ho; constructor <;> simp_all
    | stat =>
      simp only [ioWrite, Except.ok.injEq] at h
      subst h
      constructor <;> simp_all
      rw [BitVec.and_or_distrib_right, BitVec.and_assoc, BitVec.and_assoc]; simp
    | _ =>
      simp only [ioWrite, Except.ok.injEq] at h
      subst h
      constructor <;> simp_all
  | unmapped n =>
    rw [hl] at h
    cases hp : s.launch.unmappedPolicy <;> simp [hp] at h
    subst h; exact .refl s
  | cartRom n =>
    rw [hl] at h
    simp only [cartRomWrite, Except.ok.injEq] at h
    split at h <;> subst h <;> constructor <;> simp_all
  | cartRam n =>
    rw [hl] at h
    simp only [cartRamWrite, Except.ok.injEq] at h
    split at h <;> subst h <;> constructor <;> simp_all
  | ext n =>
    rw [hl] at h
    simp only [extWrite, Except.ok.injEq] at h
    split at h <;> subst h <;> constructor <;> simp_all
  | _ =>
    rw [hl] at h
    simp only [Except.ok.injEq] at h
    subst h
    constructor <;> simp_all

/-! ### Which `Fatal` the bus raises -/

/-- The `Fatal` of an unmapped address, under the fatal policy (R91). -/
def BusFault (s : State) (f : Fault) : Prop :=
  ∃ a w, f = .unmappedAddress a w ∧ s.launch.unmappedPolicy = .fatal ∧ isUnmapped s a = true

theorem BusFault.congr {s t : State} {f : Fault} (hl : t.launch = s.launch) (h : BusFault t f) : BusFault s f := by
  obtain ⟨a, w, h1, h2, h3⟩ := h
  exact ⟨a, w, h1, by rw [← hl]; exact h2, by rw [← isUnmapped_congr (by rw [hl]) a]; exact h3⟩

theorem memRead_busFault {s : State} {a : Word} {f : Fault} (h : memRead s a = .error f) : BusFault s f := by
  rcases memRead_cases s a with ⟨_, b, hb⟩ | ⟨_, h1, h2, hb⟩ <;> rw [h] at hb <;> cases hb
  exact ⟨a, false, rfl, h2, h1⟩

theorem oamDmaCopy_busFault {k i : Nat} {base : Word} {s : State} {f : Fault} (h : oamDmaCopy k i base s = .error f) :
    BusFault s f := by
  induction k generalizing i s with
  | zero => cases h
  | succ k ih =>
    simp only [oamDmaCopy] at h
    split at h
    · next hr => cases h; exact memRead_busFault hr
    · exact (ih h).congr rfl

theorem copyBytes_busFault {k i : Nat} {src dst : Word} {s : State} {f : Fault}
    (h : copyBytes k i src dst s = .error f) : BusFault s f := by
  induction k generalizing i s with
  | zero => cases h
  | succ k ih =>
    simp only [copyBytes] at h
    split at h
    · next hr => cases h; exact memRead_busFault hr
    · exact (ih h).congr rfl

theorem copyChunks_busFault {n : Nat} {src dst : Word} {s : State} {f : Fault}
    (h : copyChunks n src dst s = .error f) : BusFault s f := by
  induction n generalizing src dst s with
  | zero => cases h
  | succ n ih =>
    simp only [copyChunks] at h
    split at h
    · next hr => cases h; exact copyBytes_busFault hr
    · next u hu => exact (ih h).congr (by rw [copyBytes_frame _ _ _ _ _ _ hu])

/-- A write raises no other `Fatal` (R91, R506). -/
theorem memWrite_busFault {s : State} {a : Word} {v : Byte} {f : Fault} (h : memWrite s a v = .error f) :
    BusFault s f := by
  unfold memWrite at h
  cases hl : locate s a with
  | unmapped n =>
    rw [hl] at h
    cases hp : s.launch.unmappedPolicy <;> simp [hp] at h
    subst h
    exact ⟨a, true, rfl, hp, by unfold isUnmapped; rw [hl]⟩
  | io r =>
    rw [hl] at h
    cases r with
    | dma =>
      simp only [ioWrite, dmaWrite] at h
      split at h
      · cases h
      · exact (oamDmaCopy_busFault h).congr rfl
    | hdma5 =>
      simp only [ioWrite, hdma5Write] at h
      split at h
      · cases h
      · split at h
        · cases h
        · split at h
          · next hc => cases h; exact copyChunks_busFault hc
          · cases h
    | _ => cases h
  | _ => rw [hl] at h; cases h

end Sys2Proof.Machine
end

