-- ==== Sys2Proof/Laws/Writes.lean ====
section
/-! SUPPORT. What a write leaves for later reads: the written cell, every other location, and the invariant. -/

namespace Sys2Proof.Machine

/-- The read of a location, by the handler that decoding selects. -/
def readLoc (s : State) (a : Word) : Loc → Except Fault Byte
  | .cartRom n => .ok (cartRomRead s n)
  | .cartRam n => .ok (cartRamRead s n)
  | .vram i => .ok (s.mem.vram.read i)
  | .wram i => .ok (s.mem.wram.read i)
  | .oam i => .ok (s.mem.oam.read i)
  | .hram i => .ok (s.mem.hram.read i)
  | .snd i => .ok (s.mem.snd.read i)
  | .none => .ok Config.openBus
  | .ext n => .ok (extRead s n)
  | .io r => .ok (ioRead s r)
  | .ie => .ok s.ie
  | .unmapped _ =>
    match s.launch.unmappedPolicy with
    | .fatal => .error (.unmappedAddress a false)
    | .sentinel => .ok Config.openBus

theorem memRead_eq_readLoc (s : State) (a : Word) : memRead s a = readLoc s a (locate s a) := by
  unfold memRead readLoc; cases locate s a <;> rfl

/-- Two states read an address alike if it is one location whose read is the same. -/
theorem memRead_of_loc {s t : State} {b : Word} (hl : locate t b = locate s b)
    (hr : readLoc t b (locate s b) = readLoc s b (locate s b)) : memRead t b = memRead s b := by
  rw [memRead_eq_readLoc, memRead_eq_readLoc, hl, hr]

/-- Two addresses of one location read alike, unless the location is unmapped. -/
theorem readLoc_addr (s : State) (a b : Word) (l : Loc) (h : ∀ n, l ≠ .unmapped n) : readLoc s a l = readLoc s b l := by
  cases l <;> first | rfl | exact absurd rfl (h _)

/-- A write to a RAM cell, by location. -/
theorem memWrite_ram (s : State) (a : Word) (v : Byte) (h : isRam s a = true) :
    ∃ t, memWrite s a v = .ok t ∧ t = { s with mem := t.mem } ∧
      (∀ b, locate t b = locate s b) ∧
      (∀ b l, l ≠ locate s a → readLoc t b l = readLoc s b l) ∧
      (s.mem.wf s.launch.variant = true → t.mem.wf s.launch.variant = true ∧
        ∀ b, readLoc t b (locate s a) = .ok v) := by
  have hok := locate_ok s a
  unfold isRam at h
  unfold memWrite
  cases hl : locate s a <;> rw [hl] at h hok <;> first | (simp at h; done) | skip
  all_goals
    refine ⟨_, rfl, rfl, fun b => locate_congr rfl rfl rfl b, ?_, ?_⟩
    · intro b l hne
      cases l <;> first
        | rfl
        | (simp only [readLoc, setVram, setWram, setOam, setHram, setSnd]
           rw [Memory.read_write_ne _ _ _ _ (fun e => hne (by rw [e]))])
    · intro hw
      have hw' := (Mem.wf_iff _ _).1 hw
      refine ⟨(Mem.wf_iff _ _).2 ?_, fun b => ?_⟩
      · simp only [setVram, setWram, setOam, setHram, setSnd]
        refine ⟨?_, ?_, ?_, ?_, ?_, hw'.2.2.2.2.2.1, hw'.2.2.2.2.2.2⟩ <;> first
          | exact hw'.1
          | exact hw'.2.1
          | exact hw'.2.2.1
          | exact hw'.2.2.2.1
          | exact hw'.2.2.2.2.1
          | exact Memory.wf_write hw'.1 _ _ hok
          | exact Memory.wf_write hw'.2.1 _ _ hok
          | exact Memory.wf_write hw'.2.2.1 _ _ hok
          | exact Memory.wf_write hw'.2.2.2.1 _ _ hok
          | exact Memory.wf_write hw'.2.2.2.2.1 _ _ hok
      · simp only [readLoc, setVram, setWram, setOam, setHram, setSnd]
        first
          | rw [Memory.read_write_same hw'.1]
          | rw [Memory.read_write_same hw'.2.1]
          | rw [Memory.read_write_same hw'.2.2.1]
          | rw [Memory.read_write_same hw'.2.2.2.1]
          | rw [Memory.read_write_same hw'.2.2.2.2.1]

/-- RAM is writable. -/
theorem canWrite_of_isRam {s : State} {a : Word} (v : Byte) (h : isRam s a = true) : canWrite s a v = true :=
  (memWrite_ok_iff s a v).1 ((memWrite_ram s a v h).imp fun _ ht => ht.1)

/-- A store to a local address changes what no other location reads, and moves no location. -/
theorem memWrite_local {s t : State} {a : Word} {v : Byte} (h : memWrite s a v = .ok t) (hl : isLocal s a = true) :
    (∀ b, locate t b = locate s b) ∧ (∀ b, locate s b ≠ locate s a → memRead t b = memRead s b) ∧
      (∀ b, isLocal t b = isLocal s b) := by
  by_cases hram : isRam s a = true
  · obtain ⟨t', ht', hf, hloc, hread, _⟩ := memWrite_ram s a v hram
    rw [h] at ht'; cases ht'
    refine ⟨hloc, fun b hb => ?_, fun b => ?_⟩
    · rw [memRead_eq_readLoc, memRead_eq_readLoc, hloc b]; exact hread b _ hb
    · unfold isLocal; rw [hloc b, hf]
  · unfold memWrite at h
    unfold isLocal at hl
    unfold isRam at hram
    cases he : locate s a <;> rw [he] at h hl hram <;> first | (simp at hram; done) | skip
    case cartRom n =>
      simp only [cartRomWrite] at h
      split at h
      · cases h; exact ⟨fun _ => rfl, fun _ _ => rfl, fun _ => rfl⟩
      · next hc => simp [hc] at hl
    case cartRam n =>
      simp only [cartRamWrite] at h
      split at h
      · cases h; exact ⟨fun _ => rfl, fun _ _ => rfl, fun _ => rfl⟩
      · next hc => simp [hc] at hl
    case ext n =>
      simp only [extWrite] at h
      split at h
      · cases h; exact ⟨fun _ => rfl, fun _ _ => rfl, fun _ => rfl⟩
      · next hc => simp [hc] at hl
    case none => cases h; exact ⟨fun _ => rfl, fun _ _ => rfl, fun _ => rfl⟩
    case unmapped n =>
      cases hp : s.launch.unmappedPolicy <;> simp [hp] at h
      subst h; exact ⟨fun _ => rfl, fun _ _ => rfl, fun _ => rfl⟩
    case ie =>
      cases h
      refine ⟨fun b => locate_congr rfl rfl rfl b, fun b hb => ?_, fun b => ?_⟩
      · rw [memRead_eq_readLoc, memRead_eq_readLoc, show locate { s with ie := v } b = locate s b from rfl]
        cases hb' : locate s b <;> first | rfl | exact absurd hb' hb | (rename_i r; cases r <;> rfl)
      · rfl
    case io r =>
      cases r <;> simp only [localReg] at hl <;> first | (cases hl; done) | skip
      all_goals
        simp only [ioWrite, Except.ok.injEq] at h
        subst h
        refine ⟨fun b => locate_congr rfl rfl rfl b, fun b hb => ?_, fun b => ?_⟩
        · refine memRead_of_loc (locate_congr rfl rfl rfl b) ?_
          cases hb' : locate s b <;> first
            | rfl
            | (rename_i q; cases q <;> first | rfl | exact absurd hb' hb)
        · rfl

/-- The parts of the invariant that a bus write can touch. -/
structure BusInv (s : State) : Prop where
  lyRange : s.ppu.ly.toNat ≤ 153
  visible : ppuMode s ≠ 1 → s.ppu.ly.toNat ≤ 143
  chunks : s.ppu.hdma.remaining ≤ 128
  armed : s.ppu.hdma.active = true → 0 < s.ppu.hdma.remaining
  bcpsBit : bit s.ppu.bcps 6 = false
  ocpsBit : bit s.ppu.ocps 6 = false
  cartWf : s.cart.wf = true
  memWf : s.mem.wf s.launch.variant = true

theorem palNext_bit6 (p : Byte) (h : bit p 6 = false) : bit (palNext p) 6 = false := by
  unfold palNext
  split
  · have hm : (palIndex p + 1) % 64 < 64 := Nat.mod_lt _ (by decide)
    generalize (palIndex p + 1) % 64 = k at hm ⊢
    have : ∀ k, k < 64 → bit (0x80 ||| BitVec.ofNat 8 k) 6 = false := by decide
    exact this k hm
  · exact h

/-- A completed write keeps its part of the invariant. -/
theorem memWrite_busInv {s t : State} {a : Word} {v : Byte} (h : memWrite s a v = .ok t) (hi : BusInv s) : BusInv t := by
  by_cases hram : isRam s a = true
  · obtain ⟨t', ht', hf, _, _, hwf⟩ := memWrite_ram s a v hram
    rw [h] at ht'; cases ht'
    have hw := (hwf hi.memWf).1
    rw [hf]
    exact ⟨hi.lyRange, hi.visible, hi.chunks, hi.armed, hi.bcpsBit, hi.ocpsBit, hi.cartWf, hw⟩
  · have hok := locate_ok s a
    unfold memWrite at h
    unfold isRam at hram
    cases he : locate s a <;> rw [he] at h hram hok <;> first | (simp at hram; done) | skip
    case cartRom n =>
      simp only [cartRomWrite, Except.ok.injEq] at h
      split at h <;> subst h
      · exact hi
      · exact ⟨hi.lyRange, hi.visible, hi.chunks, hi.armed, hi.bcpsBit, hi.ocpsBit, rfl, hi.memWf⟩
    case cartRam n =>
      simp only [cartRamWrite, Except.ok.injEq] at h
      split at h <;> subst h
      · exact hi
      · exact ⟨hi.lyRange, hi.visible, hi.chunks, hi.armed, hi.bcpsBit, hi.ocpsBit, rfl, hi.memWf⟩
    case ext n =>
      simp only [extWrite, Except.ok.injEq] at h
      split at h <;> subst h
      · exact hi
      · exact ⟨hi.lyRange, hi.visible, hi.chunks, hi.armed, hi.bcpsBit, hi.ocpsBit, hi.cartWf, hi.memWf⟩
    case none => cases h; exact hi
    case unmapped n =>
      cases hp : s.launch.unmappedPolicy <;> simp [hp] at h
      subst h; exact hi
    case ie =>
      cases h; exact ⟨hi.lyRange, hi.visible, hi.chunks, hi.armed, hi.bcpsBit, hi.ocpsBit, hi.cartWf, hi.memWf⟩
    case io r =>
      have hw := (Mem.wf_iff _ _).1 hi.memWf
      obtain ⟨h1, h2, h3, h4, h5, h6, h7, h8⟩ := hi
      cases r
      case dma =>
        simp only [ioWrite, dmaWrite] at h
        split at h
        · cases h; exact ⟨h1, h2, h3, h4, h5, h6, h7, h8⟩
        · obtain ⟨o, ho⟩ : ∃ o, t = { s with ppu := { s.ppu with dma := v }, mem := { s.mem with oam := o } } :=
            ⟨_, oamDmaCopy_frame _ _ _ _ _ h⟩
          have hwo := oamDmaCopy_wf _ _ _ _ _ h hw.2.2.1 (by omega)
          clear h; subst ho
          exact ⟨h1, h2, h3, h4, h5, h6, h7, (Mem.wf_iff _ _).2
            ⟨hw.1, hw.2.1, hwo, hw.2.2.2.1, hw.2.2.2.2.1, hw.2.2.2.2.2.1, hw.2.2.2.2.2.2⟩⟩
      case hdma5 =>
        have hcgb : s.launch.variant = .cgb := by rcases hok with h | h; exact h; exact absurd (by simp) h
        have hm : v.toNat % 128 < 128 := Nat.mod_lt _ (by decide)
        simp only [ioWrite, hdma5Write] at h
        split at h
        · cases h
          exact ⟨h1, h2, by simp only [setHdma]; omega, fun _ => by simp only [setHdma]; omega, h5, h6, h7, h8⟩
        · split at h
          · cases h
            exact ⟨h1, h2, h3, fun e => by simp [setHdma] at e, h5, h6, h7, h8⟩
          · next hact =>
            split at h
            · cases h
            · next u hu =>
              obtain ⟨o, ho⟩ : ∃ o, u = { s with mem := { s.mem with vram := o } } := ⟨_, copyChunks_frame _ _ _ _ _ hu⟩
              have hsz : vramSize s.launch.variant = 0x4000 := by rw [hcgb]; rfl
              have hwo := copyChunks_wf _ _ _ _ _ hu (by rw [← hsz]; exact hw.1)
              cases h
              clear hu; subst ho
              refine ⟨h1, h2, by simp [setHdma], fun e => absurd e hact, h5, h6, h7, (Mem.wf_iff _ _).2
                ⟨?_, hw.2.1, hw.2.2.1, hw.2.2.2.1, hw.2.2.2.2.1, hw.2.2.2.2.2.1, hw.2.2.2.2.2.2⟩⟩
              show Memory.wf (vramSize s.launch.variant) _ = true
              rw [hsz]; exact hwo
      case stat =>
        cases h
        refine ⟨h1, ?_, h3, h4, h5, h6, h7, h8⟩
        intro hm
        refine h2 fun e => hm ?_
        rw [← e]
        unfold ppuMode
        ext i hi
        simp only [BitVec.getElem_setWidth, BitVec.getLsbD_or, BitVec.getLsbD_and]
        have : i = 0 ∨ i = 1 := by omega
        rcases this with rfl | rfl <;> simp
      case ly => cases h; exact ⟨by simp, fun _ => by simp, h3, h4, h5, h6, h7, h8⟩
      case bcps => cases h; exact ⟨h1, h2, h3, h4, by simp [bit], h6, h7, h8⟩
      case ocps => cases h; exact ⟨h1, h2, h3, h4, h5, by simp [bit], h7, h8⟩
      case bcpd =>
        cases h
        exact ⟨h1, h2, h3, h4, palNext_bit6 _ h5, h6, h7, (Mem.wf_iff _ _).2
          ⟨hw.1, hw.2.1, hw.2.2.1, hw.2.2.2.1, hw.2.2.2.2.1,
            Memory.wf_write hw.2.2.2.2.2.1 _ _ (Nat.mod_lt _ (by decide)), hw.2.2.2.2.2.2⟩⟩
      case ocpd =>
        cases h
        exact ⟨h1, h2, h3, h4, h5, palNext_bit6 _ h6, h7, (Mem.wf_iff _ _).2
          ⟨hw.1, hw.2.1, hw.2.2.1, hw.2.2.2.1, hw.2.2.2.2.1, hw.2.2.2.2.2.1,
            Memory.wf_write hw.2.2.2.2.2.2 _ _ (Nat.mod_lt _ (by decide))⟩⟩
      all_goals (cases h; exact ⟨h1, h2, h3, h4, h5, h6, h7, h8⟩)

end Sys2Proof.Machine
end

