-- ==== Sys2Proof/Laws/Ops.lean ====
section
/-! SUPPORT. One lemma per shared operation: what a push, a pop, a load and a store can do. -/

namespace Sys2Proof.Machine

/-- Outside the I/O window every write completes. -/
theorem canWrite_outside (s : State) (a : Word) (v : Byte) (hio : ¬(0xFF00 ≤ a.toNat ∧ a.toNat < 0xFF80)) :
    canWrite s a v = true := by
  have hwram : ∀ b : Word, 0xC000 ≤ b.toNat → b.toNat < 0xE000 → ∃ i, locate s b = .wram i := by
    intro b h1 h2
    by_cases h : b.toNat < 0xD000
    · exact ⟨_, locate_wram0 h1 h⟩
    · exact ⟨_, locate_wram1 (by omega) h2⟩
  unfold canWrite
  cases region a with
  | rom h => rw [locate_rom h]
  | vram h h' => rw [locate_vram h h']
  | cartRam h h' => rw [locate_cartRam h h']
  | wram0 h h' => rw [locate_wram0 h h']
  | wram1 h h' => rw [locate_wram1 h h']
  | echo h h' =>
    have hn := echo_toNat h
    obtain ⟨i, e⟩ := hwram (a - 0x2000) (by omega) (by omega)
    rw [locate_echo h h', e]
  | oam h h' => rw [locate_oam h h']
  | noop h h' => rw [locate_noop h h']
  | io h h' => exact absurd ⟨h, h'⟩ hio
  | hram h h' => rw [locate_hram h h']
  | ie h => rw [locate_ie h]

/-- `HDMA5` stands at 0xFF55 alone. -/
theorem ioWindow_hdma5 (v : Variant) : ∀ k, k < 128 → (locateIo v (0xFF00 + k) = .io .hdma5 → k = 0x55) := by
  cases v <;> decide

theorem locateIo_54 (v : Variant) : locateIo v 0xFF54 = cgbReg v .hdma4 0xFF54 := rfl

theorem locateIo_56 (v : Variant) : locateIo v 0xFF56 = .unmapped 0xFF56 := rfl

/-- Whether a write completes is the same before and after a write to a neighbouring address. -/
theorem canWrite_neighbour {s t : State} {a : Word} {v : Byte} (h : memWrite s a v = .ok t) (b : Word) (w : Byte)
    (hb : b = a + 1 ∨ b = a - 1) : canWrite t b w = canWrite s b w := by
  by_cases hio : 0xFF00 ≤ b.toNat ∧ b.toNat < 0xFF80
  · have hk := memWrite_keeps h
    have hloc : locate t b = locate s b := by
      rw [locate_io hio.1 hio.2, locate_io hio.1 hio.2, hk.launch]
    have hcrb : ∀ base n, canReadBlock t base n = canReadBlock s base n := by
      intro base n
      have : (fun i : Nat => canRead t (base + BitVec.ofNat 16 i)) = fun i => canRead s (base + BitVec.ofNat 16 i) :=
        funext fun i => canRead_congr hk.launch _
      unfold canReadBlock
      rw [this]
    unfold canWrite
    rw [hloc, hk.launch]
    cases hl : locate s b
    case io r =>
      cases r
      case dma => simp only [hcrb]
      case hdma5 =>
        -- only HDMA5 looks at a register, and its neighbours change neither its source nor whether it is armed
        have h55 : b.toNat = 0xFF55 := by
          have := ioWindow_hdma5 s.launch.variant (b.toNat - 0xFF00) (by omega)
          rw [show 0xFF00 + (b.toNat - 0xFF00) = b.toNat by omega, ← locate_io hio.1 hio.2, hl] at this
          have := this rfl
          omega
        have hbe : b = 0xFF55 := BitVec.eq_of_toNat_eq h55
        subst hbe
        have ha : a = 0xFF54 ∨ a = 0xFF56 := by
          rcases hb with e | e
          · left
            have : a + 1 - 1 = (0xFF55 : Word) - 1 := by rw [← e]
            simpa using this
          · right
            have : a - 1 + 1 = (0xFF55 : Word) + 1 := by rw [← e]
            simpa using this
        have key : hdmaSrc0 t.ppu.hdma = hdmaSrc0 s.ppu.hdma ∧ t.ppu.hdma.active = s.ppu.hdma.active := by
          rcases ha with rfl | rfl
          · have hl' : locate s 0xFF54 = cgbReg s.launch.variant .hdma4 0xFF54 := locate_io (by decide) (by decide)
            unfold memWrite at h
            rw [hl'] at h
            cases hv : s.launch.variant <;> rw [hv] at h <;> simp only [cgbReg] at h
            · cases hp : s.launch.unmappedPolicy <;> simp [hp] at h
              subst h; exact ⟨rfl, rfl⟩
            · cases h; exact ⟨rfl, rfl⟩
          · have hl' : locate s 0xFF56 = .unmapped 0xFF56 := locate_io (by decide) (by decide)
            unfold memWrite at h
            rw [hl'] at h
            cases hp : s.launch.unmappedPolicy <;> simp [hp] at h
            subst h; exact ⟨rfl, rfl⟩
        simp only [key.1, key.2, hcrb]
      all_goals rfl
    all_goals rfl
  · rw [canWrite_outside t b w hio, canWrite_outside s b w hio]

/-- `push16` is two writes below `SP`; the rest of the CPU is untouched. -/
theorem push16_eq (s : State) (w : Word) :
    push16 s w =
      (match memWrite s (s.cpu.sp - 1) (hi w) with
        | .error f => .error f
        | .ok t =>
          match memWrite t (s.cpu.sp - 2) (lo w) with
          | .error f => .error f
          | .ok u => .ok { u with cpu := { s.cpu with sp := s.cpu.sp - 2 } }) := by
  have h21 : s.cpu.sp - 1 - 1 = s.cpu.sp - 2 := by bv_omega
  unfold push16
  simp only [setSP]
  rw [memWrite_cpu]
  cases h1 : memWrite s (s.cpu.sp - 1) (hi w) with
  | error f => rfl
  | ok t =>
    have hc := (memWrite_keeps h1).cpu
    simp only [h21]
    rw [memWrite_cpu]
    cases memWrite t (s.cpu.sp - 2) (lo w) <;> rfl

/-- A push with the CPU's registers replaced is the same two writes. -/
theorem push16_cpu (s : State) (c : Cpu) (w : Word) :
    push16 { s with cpu := c } w =
      (match memWrite s (c.sp - 1) (hi w) with
        | .error f => .error f
        | .ok t =>
          match memWrite t (c.sp - 2) (lo w) with
          | .error f => .error f
          | .ok u => .ok { u with cpu := { c with sp := c.sp - 2 } }) := by
  rw [push16_eq]
  dsimp only
  rw [memWrite_cpu]
  cases memWrite s (c.sp - 1) (hi w) with
  | error f => rfl
  | ok t =>
    dsimp only
    rw [memWrite_cpu]
    cases memWrite t (c.sp - 2) (lo w) <;> rfl

/-- A push that can complete. -/
theorem push16_ok {s : State} {w : Word} (h : canPush s w = true) :
    ∃ t u, memWrite s (s.cpu.sp - 1) (hi w) = .ok t ∧ memWrite t (s.cpu.sp - 2) (lo w) = .ok u ∧
      push16 s w = .ok { u with cpu := { s.cpu with sp := s.cpu.sp - 2 } } := by
  simp only [canPush, Bool.and_eq_true] at h
  obtain ⟨t, ht⟩ := (memWrite_ok_iff s _ _).2 h.1
  have h2 : canWrite t (s.cpu.sp - 2) (lo w) = true := by
    rw [canWrite_neighbour ht _ _ (Or.inr (by bv_omega))]; exact h.2
  obtain ⟨u, hu⟩ := (memWrite_ok_iff t _ _).2 h2
  exact ⟨t, u, ht, hu, by rw [push16_eq, ht]; simp only [hu]⟩

/-- A push that cannot. -/
theorem push16_error {s : State} {w : Word} (h : canPush s w = false) : ∃ f, push16 s w = .error f := by
  rw [push16_eq]
  cases ht : memWrite s (s.cpu.sp - 1) (hi w) with
  | error f => exact ⟨f, rfl⟩
  | ok t =>
    have h1 : canWrite s (s.cpu.sp - 1) (hi w) = true := (memWrite_ok_iff s _ _).1 ⟨t, ht⟩
    simp only [canPush, h1, Bool.true_and] at h
    have h2 : canWrite t (s.cpu.sp - 2) (lo w) = false := by
      rw [canWrite_neighbour ht _ _ (Or.inr (by bv_omega))]; exact h
    obtain ⟨f, hf⟩ := (memWrite_error_iff t _ _).2 h2
    exact ⟨f, by simp only [hf]⟩

/-- A push raises no other `Fatal` than its writes do. -/
theorem push16_busFault {s : State} {w : Word} {f : Fault} (h : push16 s w = .error f) : BusFault s f := by
  rw [push16_eq] at h
  split at h
  · next hr => cases h; exact memWrite_busFault hr
  · next t ht =>
    split at h
    · next hr => cases h; exact (memWrite_busFault hr).congr (memWrite_keeps ht).launch
    · cases h

/-- A completed push, with all the writes can do. -/
theorem push16_keeps {s u : State} {w : Word} (h : push16 s w = .ok u) :
    ∃ t t', memWrite s (s.cpu.sp - 1) (hi w) = .ok t ∧ memWrite t (s.cpu.sp - 2) (lo w) = .ok t' ∧
      u = { t' with cpu := { s.cpu with sp := s.cpu.sp - 2 } } := by
  rw [push16_eq] at h
  split at h
  · cases h
  · next t ht =>
    split at h
    · cases h
    · next t' ht' => cases h; exact ⟨t, t', ht, ht', rfl⟩

/-- `pop16` is two reads at `SP`. -/
theorem pop16_eq (s : State) :
    pop16 s =
      (match memRead s s.cpu.sp with
        | .error f => .error f
        | .ok l =>
          match memRead s (s.cpu.sp + 1) with
          | .error f => .error f
          | .ok h => .ok (pair h l, { s with cpu := { s.cpu with sp := s.cpu.sp + 2 } })) := by
  have h11 : s.cpu.sp + 1 + 1 = s.cpu.sp + 2 := by bv_omega
  unfold pop16
  cases h1 : memRead s s.cpu.sp with
  | error f => rfl
  | ok l =>
    simp only [setSP, memRead_cpu]
    cases memRead s (s.cpu.sp + 1) with
    | error f => rfl
    | ok h => simp only [h11]

theorem pop16_error {s : State} (h : canPop s = false) : ∃ f, pop16 s = .error f := by
  rw [pop16_eq]
  simp only [canPop, Bool.and_eq_false_iff] at h
  rcases memRead_cases s s.cpu.sp with ⟨h1, b, hb⟩ | ⟨_, _, _, hb⟩
  · rcases memRead_cases s (s.cpu.sp + 1) with ⟨h2, b', hb'⟩ | ⟨_, _, _, hb'⟩
    · rw [h1, h2] at h; simp at h
    · rw [hb, hb']; exact ⟨_, rfl⟩
  · rw [hb]; exact ⟨_, rfl⟩

/-- `lowestSet` finds the least bit that is set (R494). -/
theorem lowestSet_eq : ∀ (p : BitVec 5) (i : Nat), i < 5 → p.getLsbD i = true → (∀ j, j < i → p.getLsbD j = false) →
    lowestSet p = i := by
  decide

/-- What a raised `Fatal` is. -/
theorem raises_raiseFatal (f : Fault) (s : State) : Raises (raiseFatal f s) f := ⟨_, rfl, rfl⟩

/-- A store that can complete. -/
theorem storeByte_ok {s : State} {a : Word} {v : Byte} (h : canWrite s a v = true) (k : State → State) :
    ∃ t, memWrite s a v = .ok t ∧ t.cpu = s.cpu ∧ storeByte s a v k = .next (k t) := by
  obtain ⟨t, ht⟩ := (memWrite_ok_iff s a v).2 h
  exact ⟨t, ht, (memWrite_keeps ht).cpu, by simp only [storeByte, ht]⟩

/-- A store whose write raises a `Fatal`. -/
theorem storeByte_error {s : State} {a : Word} {v : Byte} {f : Fault} (h : memWrite s a v = .error f)
    (k : State → State) : Raises (storeByte s a v k) f := by
  simp only [storeByte, h]; exact raises_raiseFatal ..

/-- A push that can complete, and what follows it. -/
theorem pushThen_ok {s : State} {w : Word} (h : canPush s w = true) (k : State → State) :
    ∃ t u, memWrite s (s.cpu.sp - 1) (hi w) = .ok t ∧ memWrite t (s.cpu.sp - 2) (lo w) = .ok u ∧
      pushThen s w k = .next (k { u with cpu := { s.cpu with sp := s.cpu.sp - 2 } }) := by
  obtain ⟨t, u, ht, hu, hp⟩ := push16_ok h
  exact ⟨t, u, ht, hu, by simp only [pushThen, hp]⟩

theorem pushThen_error {s : State} {w : Word} (h : canPush s w = false) (k : State → State) :
    ∃ f, Raises (pushThen s w k) f := by
  obtain ⟨f, hf⟩ := push16_error h
  exact ⟨f, by simp only [pushThen, hf]; exact raises_raiseFatal ..⟩

/-- A pop that can complete, and what follows it. -/
theorem popThen_ok {s : State} {l h : Byte} (hl : memRead s s.cpu.sp = .ok l) (hh : memRead s (s.cpu.sp + 1) = .ok h)
    (k : Word → State → State) :
    popThen s k = .next (k (pair h l) { s with cpu := { s.cpu with sp := s.cpu.sp + 2 } }) := by
  unfold popThen; rw [pop16_eq]; simp only [hl, hh]

theorem popThen_error {s : State} (h : canPop s = false) (k : Word → State → State) :
    ∃ f, Raises (popThen s k) f := by
  obtain ⟨f, hf⟩ := pop16_error h
  exact ⟨f, by simp only [popThen, hf]; exact raises_raiseFatal ..⟩

/-- A push onto a stack in RAM: it completes, and both bytes are read back (R186). -/
theorem push16_ram {s : State} {w : Word} (hw : s.mem.wf s.launch.variant = true)
    (h1 : isRam s (s.cpu.sp - 1) = true) (h2 : isRam s (s.cpu.sp - 2) = true) :
    ∃ u, push16 s w = .ok u ∧ u.cpu = { s.cpu with sp := s.cpu.sp - 2 } ∧ u.fault = s.fault ∧ u.ie = s.ie ∧
      memRead u (s.cpu.sp - 2) = .ok (lo w) ∧ memRead u (s.cpu.sp - 1) = .ok (hi w) := by
  have hne : locate s (s.cpu.sp - 1) ≠ locate s (s.cpu.sp - 2) := by
    have := isRam_succ_ne s (s.cpu.sp - 2) h2
    rwa [show s.cpu.sp - 2 + 1 = s.cpu.sp - 1 by bv_omega] at this
  obtain ⟨t, ht, hf, hl, hr, hv⟩ := memWrite_ram s (s.cpu.sp - 1) (hi w) h1
  have hvt : t.launch = s.launch := by rw [hf]
  obtain ⟨hwt, hv⟩ := hv hw
  have h2' : isRam t (s.cpu.sp - 2) = true := by unfold isRam at h2 ⊢; rw [hl]; exact h2
  obtain ⟨u, hu, hfu, hlu, hru, hvu⟩ := memWrite_ram t (s.cpu.sp - 2) (lo w) h2'
  obtain ⟨hwu, hvu⟩ := hvu (by rw [hvt]; exact hwt)
  refine ⟨{ u with cpu := { s.cpu with sp := s.cpu.sp - 2 } }, ?_, rfl, ?_, ?_, ?_, ?_⟩
  · rw [push16_eq, ht]; simp only [hu]
  · rw [hfu, hf]
  · rw [hfu, hf]
  · rw [memRead_cpu, memRead_eq_readLoc, hlu]; exact hvu _
  · rw [memRead_cpu, memRead_eq_readLoc, hlu, hru _ _ (by rw [hl, hl]; exact hne), hl]; exact hv _

end Sys2Proof.Machine
end

