-- ==== Sys2Proof/Laws/Alu.lean ====
section
/-! SUPPORT. The arithmetic of the CPU in closed form, and the shape of an instruction that writes one register. -/

namespace Sys2Proof.Machine

/-- Writing a register and the flags, and advancing, is a `RegResult`. -/
theorem regResult_setF (s : State) (r : Reg8) (v f : Byte) (len : Word) (cost : Nat) :
    RegResult s (advance len cost (setF (setR8 s r v) f)) r v f len cost := by
  cases r <;> refine ⟨rfl, ?_, rfl, rfl, rfl, rfl, rfl, rfl, rfl⟩ <;> intro q hq <;> cases q <;>
    first | rfl | exact absurd rfl hq

/-- Writing a register and advancing keeps the flags. -/
theorem regResult_set (s : State) (r : Reg8) (v : Byte) (len : Word) (cost : Nat) :
    RegResult s (advance len cost (setR8 s r v)) r v s.cpu.f len cost := by
  cases r <;> refine ⟨rfl, ?_, rfl, rfl, rfl, rfl, rfl, rfl, rfl⟩ <;> intro q hq <;> cases q <;>
    first | rfl | exact absurd rfl hq

/-- The three operand forms of an accumulator operation come to one state (R201). -/
theorem exec_aluOperand {i : Instr} {s : State} {op : AluOp} {v : Byte} {len : Word} {cost : Nat}
    (h : AluOperand i s op v len cost) : exec i s = .next (advance len cost (applyAlu op v s)) := by
  rcases h with ⟨r, h, rfl, rfl, rfl⟩ | ⟨h, hv, rfl, rfl⟩ | ⟨h, rfl, rfl⟩ <;> rw [exec_eq_runForm, h]
  · rfl
  · simp only [runForm, aluMem, withByte, hv]
  · rfl

/-- `INC` on natural numbers (R210). -/
theorem incByte_eq (v : Byte) (c : Bool) : incByte v c = (BitVec.ofNat 8 (v.toNat + 1),
    flagsByte (decide (v.toNat = 255)) false (decide (v.toNat % 16 = 15)) c) := by
  have : v.toNat < 256 := v.isLt
  have h1 : v + 1 = BitVec.ofNat 8 (v.toNat + 1) := by
    apply BitVec.eq_of_toNat_eq; simp
  have h2 : (v &&& 0xF == 0xF) = decide (v.toNat % 16 = 15) := by
    rw [Bool.eq_iff_iff]; simp only [beq_iff_eq, decide_eq_true_eq]
    rw [byte_eq_iff, byte_nibble]; rfl
  simp only [incByte, h1, h2, beq_zero_toNat, BitVec.toNat_ofNat]
  congr 2
  rw [decide_eq_decide]; omega

/-- `DEC` on natural numbers (R212). -/
theorem decByte_eq (v : Byte) (c : Bool) : decByte v c = (BitVec.ofNat 8 (v.toNat + 255),
    flagsByte (decide (v.toNat = 1)) true (decide (v.toNat % 16 = 0)) c) := by
  have : v.toNat < 256 := v.isLt
  have h1 : v - 1 = BitVec.ofNat 8 (v.toNat + 255) := by
    apply BitVec.eq_of_toNat_eq; simp [BitVec.toNat_sub]; omega
  have h2 : (v &&& 0xF == 0x0) = decide (v.toNat % 16 = 0) := by
    rw [Bool.eq_iff_iff]; simp only [beq_iff_eq, decide_eq_true_eq]
    rw [byte_eq_iff, byte_nibble]; rfl
  simp only [decByte, h1, h2, beq_zero_toNat, BitVec.toNat_ofNat]
  congr 2
  rw [decide_eq_decide]; omega

/-- The rotates and shifts on natural numbers (R255 to R262). -/
theorem rotByte_eq : ∀ (op : RotOp) (v : Byte) (c : Bool), rotByte op v c =
    (BitVec.ofNat 8 (rotNat op v.toNat c.toNat).1, (rotNat op v.toNat c.toNat).2) := by
  intro op
  cases op <;> decide +revert

theorem rotNat_lt (op : RotOp) (v : Byte) (c : Bool) : (rotNat op v.toNat c.toNat).1 < 256 := by
  have := v.isLt
  have := Bool.toNat_lt c
  cases op <;> simp only [rotNat] <;> omega

/-- Their flags. -/
theorem rotFlags_eq (op : RotOp) (v : Byte) (c : Bool) : rotFlags (rotByte op v c) =
    flagsByte (decide ((rotNat op v.toNat c.toNat).1 = 0)) false false (rotNat op v.toNat c.toNat).2 := by
  rw [rotByte_eq]
  simp only [rotFlags, beq_zero_toNat, BitVec.toNat_ofNat]
  rw [Nat.mod_eq_of_lt (rotNat_lt op v c)]

/-- `BIT b` on natural numbers (R263). -/
theorem bitFlags_eq (v : Byte) (b : Nat) (c : Bool) :
    bitFlags v b c = flagsByte (decide (v.toNat / 2 ^ b % 2 = 0)) false true c := by
  have : (!bit v b) = decide (v.toNat / 2 ^ b % 2 = 0) := by
    unfold bit BitVec.getLsbD
    rw [Nat.testBit_eq_decide_div_mod_eq, ← decide_not, decide_eq_decide]; omega
  rw [bitFlags, this]

/-- Two bytes with the same eight bits are one. -/
theorem byte_of_bits {v w : Byte} (h : ∀ k, k < 8 → v.getLsbD k = w.getLsbD k) : v = w :=
  BitVec.eq_of_getLsbD_eq h

theorem resByte_bit (v : Byte) (b k : Nat) (hk : k < 8) :
    (resByte v b).getLsbD k = if k = b then false else v.getLsbD k := by
  unfold resByte
  by_cases e : k = b
  · subst e; simp [hk]
  · simp [hk, e]; intro _; omega

theorem setByte_bit (v : Byte) (b k : Nat) (hk : k < 8) :
    (setByte v b).getLsbD k = if k = b then true else v.getLsbD k := by
  unfold setByte
  by_cases e : k = b
  · subst e; simp [hk]
  · simp [hk, e]; intro _; omega

end Sys2Proof.Machine
end

