-- ==== Sys2Proof/Laws/Inversion.lean ====
section
/-! SUPPORT. What an instruction can do, once for all instructions: it raises a `Fatal` and changes nothing else, or it makes
the stores of its form and leaves the CPU as `CpuEffect` says. Proofs about `exec` cite this and never unfold a meaning. -/

namespace Sys2Proof.Machine

/-- `IME` after a form that raised nothing (R26). -/
def imeAfter (f : Form) (ime : Bool) : Bool :=
  match f with
  | .ei => true
  | .reti => true
  | .di => false
  | _ => ime

/-- `halted` after a form that raised nothing (R27). -/
def haltedAfter (f : Form) (halted : Bool) : Bool :=
  match f with
  | .halt => true
  | _ => halted

/-- The form transfers control, taken (R280). -/
def transfers (f : Form) (s : State) : Bool :=
  match f with
  | .jp _ => true
  | .jpHL => true
  | .jr _ => true
  | .call _ => true
  | .ret => true
  | .rst _ => true
  | .reti => true
  | .jpCC cc _ => condHolds s cc
  | .jrCC cc _ => condHolds s cc
  | .callCC cc _ => condHolds s cc
  | .retCC cc => condHolds s cc
  | _ => false

/-- The length in bytes of a form's instruction (R129). -/
def formLen : Form → Word
  | .stop _ => 2
  | .ldRN _ _ => 2
  | .ldMN _ => 2
  | .ldA m => modeLen m
  | .stA m => modeLen m
  | .ldRRNN _ _ => 3
  | .stSP _ => 3
  | .ldHLSP _ => 2
  | .aluN _ _ => 2
  | .addSP _ => 2
  | .rotR _ _ => 2
  | .rotM _ => 2
  | .bitR _ _ => 2
  | .bitM _ => 2
  | .resR _ _ => 2
  | .resM _ => 2
  | .setR _ _ => 2
  | .setM _ => 2
  | .jp _ => 3
  | .jpCC _ _ => 3
  | .jr _ => 2
  | .jrCC _ _ => 2
  | .call _ => 3
  | .callCC _ _ => 3
  | _ => 1

/-- A cost that an instruction can report (R553). -/
def costOk (n : Nat) : Bool :=
  match n with
  | 4 => true
  | 8 => true
  | 12 => true
  | 16 => true
  | 20 => true
  | 24 => true
  | _ => false

theorem costOk_iff {n : Nat} (h : costOk n = true) : 4 ≤ n ∧ n ≤ 24 ∧ n % 4 = 0 := by
  unfold costOk at h
  split at h <;> first | decide | cases h

/-- What a form that raised nothing leaves in the CPU, besides its own result. -/
structure CpuEffect (f : Form) (s : State) (c : Cpu) : Prop where
  ime : c.ime = imeAfter f s.cpu.ime
  halted : c.halted = haltedAfter f s.cpu.halted
  cost : costOk c.cycles = true
  flags : s.cpu.f &&& 0x0F = 0 → c.f &&& 0x0F = 0
  pc : transfers f s = false → c.pc = s.cpu.pc + formLen f

/-- The stores a form makes, to the addresses that `storeAddr` and `storeAddr2` compute; `u` is the state after them. -/
inductive Stores (f : Form) (s : State) : State → Prop
  | none : storeAddr s f = none → storeAddr2 s f = none → Stores f s s
  | one (ea : Word) (v : Byte) (u : State) : storeAddr s f = some ea → storeAddr2 s f = none →
      memWrite s ea v = .ok u → Stores f s u
  | up (low : Word) (w : Word) (t u : State) : storeAddr s f = none → storeAddr2 s f = some low →
      memWrite s low (lo w) = .ok t → memWrite t (low + 1) (hi w) = .ok u → Stores f s u
  | down (low : Word) (w : Word) (t u : State) : storeAddr s f = none → storeAddr2 s f = some low →
      memWrite s (low + 1) (hi w) = .ok t → memWrite t low (lo w) = .ok u → Stores f s u

/-- Which `Fatal` a form can raise (R302, R305, R506). -/
def CanRaise (f : Form) (s : State) (x : Fault) : Prop :=
  (∃ op, f = .illegal op ∧ x = .unmappedOpcode op s.cpu.pc) ∨
  ((∃ skipped, f = .stop skipped) ∧ x = .unimplementedOpcode 0x10 s.cpu.pc) ∨ BusFault s x

/-- A form's outcome: a raised `Fatal`, or its stores and its CPU effect. -/
def Outcomes (f : Form) (s : State) (r : Result) : Prop :=
  (∃ x, CanRaise f s x ∧ r = raiseFatal x s) ∨ ∃ u c, Stores f s u ∧ CpuEffect f s c ∧ r = .next { u with cpu := c }

theorem flagsByte_low (z n h c : Bool) : flagsByte z n h c &&& 0x0F = 0 := by
  cases z <;> cases n <;> cases h <;> cases c <;> decide

theorem aluByte_low (op : AluOp) (a b : Byte) (c : Bool) : (aluByte op a b c).2 &&& 0x0F = 0 := by
  cases op <;> exact flagsByte_low ..

theorem daaByte_low (a : Byte) (n h c : Bool) : (daaByte a n h c).2 &&& 0x0F = 0 := by
  unfold daaByte; split <;> exact flagsByte_low ..

theorem highNibble_low (l : Byte) : l &&& 0xF0 &&& 0x0F = 0 := by
  rw [BitVec.and_assoc]; simp

theorem outcomes_withByte {f : Form} {s : State} {a : Word} {k : Byte → Result}
    (h : ∀ v, memRead s a = .ok v → Outcomes f s (k v)) : Outcomes f s (withByte s a k) := by
  unfold withByte
  split
  · next f hr => exact .inl ⟨_, .inr (.inr (memRead_busFault hr)), rfl⟩
  · next v hv => exact h v hv

theorem outcomes_storeByte {f : Form} {s : State} {a : Word} {v : Byte} {k : State → State} {c : Cpu}
    (h1 : storeAddr s f = some a) (h2 : storeAddr2 s f = Option.none) (hc : CpuEffect f s c)
    (hk : ∀ u, u.cpu = s.cpu → k u = { u with cpu := c }) : Outcomes f s (storeByte s a v k) := by
  unfold storeByte
  split
  · next f hr => exact .inl ⟨_, .inr (.inr (memWrite_busFault hr)), rfl⟩
  · next u hu => exact .inr ⟨u, c, .one a v u h1 h2 hu, hc, by rw [hk u (memWrite_keeps hu).cpu]⟩

theorem outcomes_pushThen {f : Form} {s : State} {w : Word} {k : State → State} {c : Cpu}
    (h1 : storeAddr s f = Option.none) (h2 : storeAddr2 s f = some (s.cpu.sp - 2)) (hc : CpuEffect f s c)
    (hk : ∀ u : State, k { u with cpu := { s.cpu with sp := s.cpu.sp - 2 } } = { u with cpu := c }) :
    Outcomes f s (pushThen s w k) := by
  unfold pushThen
  split
  · next f hr => exact .inl ⟨_, .inr (.inr (push16_busFault hr)), rfl⟩
  · next u hu =>
    obtain ⟨t, t', ht, ht', rfl⟩ := push16_keeps hu
    refine .inr ⟨t', c, .down (s.cpu.sp - 2) w t t' h1 h2 ?_ ht', hc, by rw [hk]⟩
    rw [show s.cpu.sp - 2 + 1 = s.cpu.sp - 1 by bv_omega]; exact ht

theorem outcomes_popThen {f : Form} {s : State} {k : Word → State → State} {c : Word → Cpu}
    (hs : storeAddr s f = Option.none) (hs2 : storeAddr2 s f = Option.none) (hc : ∀ w, CpuEffect f s (c w))
    (hk : ∀ w, k w { s with cpu := { s.cpu with sp := s.cpu.sp + 2 } } = { s with cpu := c w }) :
    Outcomes f s (popThen s k) := by
  unfold popThen
  rw [pop16_eq]
  cases h1 : memRead s s.cpu.sp with
  | error x => exact .inl ⟨_, .inr (.inr (memRead_busFault h1)), rfl⟩
  | ok l =>
    cases h2 : memRead s (s.cpu.sp + 1) with
    | error x => exact .inl ⟨_, .inr (.inr (memRead_busFault h2)), rfl⟩
    | ok h => exact .inr ⟨s, _, .none hs hs2, hc _, by rw [← hk]⟩

theorem outcomes_plain {f : Form} {s : State} {c : Cpu} (h1 : storeAddr s f = Option.none)
    (h2 : storeAddr2 s f = Option.none) (hc : CpuEffect f s c) : Outcomes f s (.next { s with cpu := c }) :=
  .inr ⟨s, c, .none h1 h2, hc, rfl⟩

/-- What every form can do. -/
theorem runForm_outcomes (f : Form) (s : State) : Outcomes f s (runForm f s) := by
  cases f
  case nop => exact outcomes_plain rfl rfl ⟨rfl, rfl, rfl, id, fun _ => rfl⟩
  case halt => exact outcomes_plain rfl rfl ⟨rfl, rfl, rfl, id, fun _ => rfl⟩
  case di => exact outcomes_plain rfl rfl ⟨rfl, rfl, rfl, id, fun _ => rfl⟩
  case ei => exact outcomes_plain rfl rfl ⟨rfl, rfl, rfl, id, fun _ => rfl⟩
  case stop skipped => exact .inl ⟨_, .inr (.inl ⟨⟨skipped, rfl⟩, rfl⟩), rfl⟩
  case illegal op => exact .inl ⟨_, .inl ⟨op, rfl, rfl⟩, rfl⟩
  case ldRR d r => cases d <;> exact outcomes_plain rfl rfl ⟨rfl, rfl, rfl, id, fun _ => rfl⟩
  case ldRN d n => cases d <;> exact outcomes_plain rfl rfl ⟨rfl, rfl, rfl, id, fun _ => rfl⟩
  case ldRM d =>
    refine outcomes_withByte fun v _ => ?_
    cases d <;> exact outcomes_plain rfl rfl ⟨rfl, rfl, rfl, id, fun _ => rfl⟩
  case ldMR r =>
    exact outcomes_storeByte rfl rfl (c := { s.cpu with pc := s.cpu.pc + 1, cycles := 8 })
      ⟨rfl, rfl, rfl, id, fun _ => rfl⟩ fun u hu => by simp only [advance, hu]
  case ldMN n =>
    exact outcomes_storeByte rfl rfl (c := { s.cpu with pc := s.cpu.pc + 2, cycles := 12 })
      ⟨rfl, rfl, rfl, id, fun _ => rfl⟩ fun u hu => by simp only [advance, hu]
  case ldA m =>
    refine outcomes_withByte fun v _ => ?_
    cases m <;> exact outcomes_plain rfl rfl ⟨rfl, rfl, rfl, id, fun _ => rfl⟩
  case stA m =>
    refine outcomes_storeByte rfl rfl
      (c := (advance (modeLen m) (modeCost m) (modeAfter m s)).cpu) ?_ fun u hu => ?_
    · cases m <;> exact ⟨rfl, rfl, rfl, id, fun _ => rfl⟩
    · cases m <;> simp only [advance, modeAfter, setHL, getHL, hu]
  case ldRRNN rr nn => cases rr <;> exact outcomes_plain rfl rfl ⟨rfl, rfl, rfl, id, fun _ => rfl⟩
  case stSP nn =>
    simp only [runForm, storeSP, memWrite16]
    cases h1 : memWrite s nn (lo s.cpu.sp) with
    | error x => exact .inl ⟨_, .inr (.inr (memWrite_busFault h1)), rfl⟩
    | ok t =>
      simp only
      cases h2 : memWrite t (nn + 1) (hi s.cpu.sp) with
      | error x =>
        exact .inl ⟨_, .inr (.inr ((memWrite_busFault h2).congr (memWrite_keeps h1).launch)), rfl⟩
      | ok u =>
        refine .inr ⟨u, { s.cpu with pc := s.cpu.pc + 3, cycles := 20 }, .up nn s.cpu.sp t u rfl rfl h1 h2,
          ⟨rfl, rfl, rfl, id, fun _ => rfl⟩, ?_⟩
        simp only [advance, (memWrite_keeps h2).cpu, (memWrite_keeps h1).cpu]
  case ldSPHL => exact outcomes_plain rfl rfl ⟨rfl, rfl, rfl, id, fun _ => rfl⟩
  case ldHLSP e => exact outcomes_plain rfl rfl ⟨rfl, rfl, rfl, fun _ => flagsByte_low .., fun _ => rfl⟩
  case push rr =>
    exact outcomes_pushThen rfl rfl (c := { s.cpu with sp := s.cpu.sp - 2, pc := s.cpu.pc + 1, cycles := 16 })
      ⟨rfl, rfl, rfl, id, fun _ => rfl⟩ fun u => rfl
  case pop rr =>
    refine outcomes_popThen rfl rfl
      (c := fun w => (advance 1 12 (setR16S { s with cpu := { s.cpu with sp := s.cpu.sp + 2 } } rr w)).cpu) ?_ ?_
    · intro w
      cases rr <;> exact ⟨rfl, rfl, rfl, fun h => by first | exact h | exact highNibble_low _, fun _ => rfl⟩
    · intro w; cases rr <;> rfl
  case aluR op r => exact outcomes_plain rfl rfl ⟨rfl, rfl, rfl, fun _ => aluByte_low .., fun _ => rfl⟩
  case aluM op =>
    exact outcomes_withByte fun v _ =>
      outcomes_plain rfl rfl ⟨rfl, rfl, rfl, fun _ => aluByte_low .., fun _ => rfl⟩
  case aluN op n => exact outcomes_plain rfl rfl ⟨rfl, rfl, rfl, fun _ => aluByte_low .., fun _ => rfl⟩
  case incR r =>
    cases r <;> exact outcomes_plain rfl rfl ⟨rfl, rfl, rfl, fun _ => flagsByte_low .., fun _ => rfl⟩
  case decR r =>
    cases r <;> exact outcomes_plain rfl rfl ⟨rfl, rfl, rfl, fun _ => flagsByte_low .., fun _ => rfl⟩
  case incM =>
    exact outcomes_withByte fun v _ => outcomes_storeByte rfl rfl
      (c := { s.cpu with f := (incByte v (flagC s)).2, pc := s.cpu.pc + 1, cycles := 12 })
      ⟨rfl, rfl, rfl, fun _ => flagsByte_low .., fun _ => rfl⟩ fun u hu => by simp only [advance, setF, hu]
  case decM =>
    exact outcomes_withByte fun v _ => outcomes_storeByte rfl rfl
      (c := { s.cpu with f := (decByte v (flagC s)).2, pc := s.cpu.pc + 1, cycles := 12 })
      ⟨rfl, rfl, rfl, fun _ => flagsByte_low .., fun _ => rfl⟩ fun u hu => by simp only [advance, setF, hu]
  case daa => exact outcomes_plain rfl rfl ⟨rfl, rfl, rfl, fun _ => daaByte_low .., fun _ => rfl⟩
  case cpl => exact outcomes_plain rfl rfl ⟨rfl, rfl, rfl, fun _ => flagsByte_low .., fun _ => rfl⟩
  case scf => exact outcomes_plain rfl rfl ⟨rfl, rfl, rfl, fun _ => flagsByte_low .., fun _ => rfl⟩
  case ccf => exact outcomes_plain rfl rfl ⟨rfl, rfl, rfl, fun _ => flagsByte_low .., fun _ => rfl⟩
  case addHL rr => exact outcomes_plain rfl rfl ⟨rfl, rfl, rfl, fun _ => flagsByte_low .., fun _ => rfl⟩
  case incRR rr => cases rr <;> exact outcomes_plain rfl rfl ⟨rfl, rfl, rfl, id, fun _ => rfl⟩
  case decRR rr => cases rr <;> exact outcomes_plain rfl rfl ⟨rfl, rfl, rfl, id, fun _ => rfl⟩
  case addSP e => exact outcomes_plain rfl rfl ⟨rfl, rfl, rfl, fun _ => flagsByte_low .., fun _ => rfl⟩
  case rotA op => exact outcomes_plain rfl rfl ⟨rfl, rfl, rfl, fun _ => flagsByte_low .., fun _ => rfl⟩
  case rotR op r =>
    cases r <;> exact outcomes_plain rfl rfl ⟨rfl, rfl, rfl, fun _ => flagsByte_low .., fun _ => rfl⟩
  case rotM op =>
    exact outcomes_withByte fun v _ => outcomes_storeByte rfl rfl
      (c := { s.cpu with f := rotFlags (rotByte op v (flagC s)), pc := s.cpu.pc + 2, cycles := 16 })
      ⟨rfl, rfl, rfl, fun _ => flagsByte_low .., fun _ => rfl⟩ fun u hu => by simp only [advance, setF, hu]
  case bitR b r => exact outcomes_plain rfl rfl ⟨rfl, rfl, rfl, fun _ => flagsByte_low .., fun _ => rfl⟩
  case bitM b =>
    exact outcomes_withByte fun v _ =>
      outcomes_plain rfl rfl ⟨rfl, rfl, rfl, fun _ => flagsByte_low .., fun _ => rfl⟩
  case resR b r => cases r <;> exact outcomes_plain rfl rfl ⟨rfl, rfl, rfl, id, fun _ => rfl⟩
  case setR b r => cases r <;> exact outcomes_plain rfl rfl ⟨rfl, rfl, rfl, id, fun _ => rfl⟩
  case resM b =>
    exact outcomes_withByte fun v _ => outcomes_storeByte rfl rfl
      (c := { s.cpu with pc := s.cpu.pc + 2, cycles := 16 })
      ⟨rfl, rfl, rfl, id, fun _ => rfl⟩ fun u hu => by simp only [advance, hu]
  case setM b =>
    exact outcomes_withByte fun v _ => outcomes_storeByte rfl rfl
      (c := { s.cpu with pc := s.cpu.pc + 2, cycles := 16 })
      ⟨rfl, rfl, rfl, id, fun _ => rfl⟩ fun u hu => by simp only [advance, hu]
  case jp nn => exact outcomes_plain rfl rfl ⟨rfl, rfl, rfl, id, fun h => by cases h⟩
  case jpHL => exact outcomes_plain rfl rfl ⟨rfl, rfl, rfl, id, fun h => by cases h⟩
  case jr e => exact outcomes_plain rfl rfl ⟨rfl, rfl, rfl, id, fun h => by cases h⟩
  case jpCC cc nn =>
    simp only [runForm, jpIf]
    split
    · next hc => exact outcomes_plain rfl rfl ⟨rfl, rfl, rfl, id, fun h => absurd (hc.symm.trans h) (by decide)⟩
    · exact outcomes_plain rfl rfl ⟨rfl, rfl, rfl, id, fun _ => rfl⟩
  case jrCC cc e =>
    simp only [runForm, jrIf]
    split
    · next hc => exact outcomes_plain rfl rfl ⟨rfl, rfl, rfl, id, fun h => absurd (hc.symm.trans h) (by decide)⟩
    · exact outcomes_plain rfl rfl ⟨rfl, rfl, rfl, id, fun _ => rfl⟩
  case call nn =>
    exact outcomes_pushThen rfl rfl (c := { s.cpu with sp := s.cpu.sp - 2, pc := nn, cycles := 24 })
      ⟨rfl, rfl, rfl, id, fun h => by cases h⟩ fun u => rfl
  case rst t =>
    exact outcomes_pushThen rfl rfl (c := { s.cpu with sp := s.cpu.sp - 2, pc := zext16 t, cycles := 16 })
      ⟨rfl, rfl, rfl, id, fun h => by cases h⟩ fun u => rfl
  case callCC cc nn =>
    simp only [runForm, callIf]
    split
    · next hc =>
      exact outcomes_pushThen rfl (by simp only [storeAddr2, hc, if_true])
        (c := { s.cpu with sp := s.cpu.sp - 2, pc := nn, cycles := 24 })
        ⟨rfl, rfl, rfl, id, fun h => absurd (hc.symm.trans h) (by decide)⟩ fun u => rfl
    · next hc =>
      exact outcomes_plain rfl (by simp only [storeAddr2, hc]; rfl) ⟨rfl, rfl, rfl, id, fun _ => rfl⟩
  case ret =>
    exact outcomes_popThen rfl rfl (c := fun w => { s.cpu with sp := s.cpu.sp + 2, pc := w, cycles := 16 })
      (fun w => ⟨rfl, rfl, rfl, id, fun h => by cases h⟩) fun w => rfl
  case retCC cc =>
    simp only [runForm, retIf]
    split
    · next hc =>
      exact outcomes_popThen rfl rfl (c := fun w => { s.cpu with sp := s.cpu.sp + 2, pc := w, cycles := 20 })
        (fun w => ⟨rfl, rfl, rfl, id, fun h => absurd (hc.symm.trans h) (by decide)⟩) fun w => rfl
    · exact outcomes_plain rfl rfl ⟨rfl, rfl, rfl, id, fun _ => rfl⟩
  case reti =>
    exact outcomes_popThen rfl rfl
      (c := fun w => { s.cpu with sp := s.cpu.sp + 2, pc := w, ime := true, cycles := 16 })
      (fun w => ⟨rfl, rfl, rfl, id, fun h => by cases h⟩) fun w => rfl

/-- What every instruction can do. -/
theorem exec_outcomes (i : Instr) (s : State) : Outcomes i.form s (exec i s) := by
  rw [exec_eq_runForm]; exact runForm_outcomes ..

/-- An instruction always answers a next state. -/
theorem exec_next (i : Instr) (s : State) : ∃ t, exec i s = .next t := by
  rcases exec_outcomes i s with ⟨x, _, h⟩ | ⟨u, c, _, _, h⟩ <;> exact ⟨_, h⟩

/-- A chain of stores keeps what one store keeps. -/
theorem WriteKeeps.trans {s t u : State} (h1 : WriteKeeps s t) (h2 : WriteKeeps t u) : WriteKeeps s u where
  cpu := h2.cpu.trans h1.cpu
  launch := h2.launch.trans h1.launch
  fault := h2.fault.trans h1.fault
  divAcc := h2.divAcc.trans h1.divAcc
  timaAcc := h2.timaAcc.trans h1.timaAcc
  div := h2.div.elim (fun e => h1.div.imp e.trans e.trans) .inr
  stat := h2.stat.trans h1.stat
  ly := h2.ly.elim (fun e => h1.ly.imp e.trans e.trans) .inr
  cycles := h2.cycles.trans h1.cycles
  framebuffer := h2.framebuffer.trans h1.framebuffer
  framesOut := h2.framesOut.trans h1.framesOut
  rom := fun rom h => (h2.rom rom ((h1.rom rom h).trans h)).trans (h1.rom rom h)
  supplied := fun h => h2.supplied (h1.supplied h)
  extScripted := fun p h => (h2.extScripted p ((h1.extScripted p h).trans h)).trans (h1.extScripted p h)

theorem Stores.keeps {f : Form} {s u : State} (h : Stores f s u) : WriteKeeps s u := by
  cases h with
  | none => exact .refl s
  | one ea v u _ _ h => exact memWrite_keeps h
  | up low w t u _ _ h1 h2 => exact (memWrite_keeps h1).trans (memWrite_keeps h2)
  | down low w t u _ _ h1 h2 => exact (memWrite_keeps h1).trans (memWrite_keeps h2)

theorem Stores.busInv {f : Form} {s u : State} (h : Stores f s u) (hi : BusInv s) : BusInv u := by
  cases h with
  | none => exact hi
  | one ea v u _ _ h => exact memWrite_busInv h hi
  | up low w t u _ _ h1 h2 => exact memWrite_busInv h2 (memWrite_busInv h1 hi)
  | down low w t u _ _ h1 h2 => exact memWrite_busInv h2 (memWrite_busInv h1 hi)

end Sys2Proof.Machine
end

