-- ==== Sys2Proof/Laws/Units.lean ====
section
/-! SUPPORT. What the PPU and the timer can do between CPU steps. -/

namespace Sys2Proof.Machine

/-- The PPU changes only its own registers, `IF` and video RAM. -/
structure PpuKeeps (s t : State) : Prop where
  launch : t.launch = s.launch
  cart : t.cart = s.cart
  ext : t.ext = s.ext
  cpu : t.cpu = s.cpu
  ie : t.ie = s.ie
  timer : t.timer = s.timer
  svbk : t.svbk = s.svbk
  fault : t.fault = s.fault

theorem PpuKeeps.refl (s : State) : PpuKeeps s s := ⟨rfl, rfl, rfl, rfl, rfl, rfl, rfl, rfl⟩

theorem PpuKeeps.trans {s t u : State} (h : PpuKeeps s t) (g : PpuKeeps t u) : PpuKeeps s u :=
  ⟨g.launch.trans h.launch, g.cart.trans h.cart, g.ext.trans h.ext, g.cpu.trans h.cpu, g.ie.trans h.ie,
    g.timer.trans h.timer, g.svbk.trans h.svbk, g.fault.trans h.fault⟩

theorem setPpuCycles_keeps (s : State) (n : Nat) : PpuKeeps s (setPpuCycles s n) :=
  ⟨rfl, rfl, rfl, rfl, rfl, rfl, rfl, rfl⟩

/-- `compare` in closed form (R396). -/
theorem compareLyc_eq (irq : Bool) (s : State) :
    compareLyc irq s = { s with
      ifReg := if irq && (s.ppu.ly == s.ppu.lyc) && bit s.ppu.stat 6 then s.ifReg ||| 2 else s.ifReg,
      ppu := { s.ppu with stat := (s.ppu.stat &&& 0xFB) ||| (if s.ppu.ly = s.ppu.lyc then 0x04 else 0x00) } } := by
  have h6 : ∀ v : Byte, bit (v ||| 0x04) 6 = bit v 6 := by decide
  have h4 : ∀ v : Byte, (v &&& 0xFB) ||| 0x04 = v ||| 0x04 := by decide
  unfold compareLyc
  by_cases h : s.ppu.ly = s.ppu.lyc
  · cases irq
    · simp only [h, if_true, setStat, h4]; simp
    · simp only [h, if_true, requestIfSelected, setStat, h6, h4]
      cases bit s.ppu.stat 6 <;> simp [request]
  · simp [h, setStat]

/-- What a request leaves. -/
theorem requestIfSelected_eq (i : Nat) (s : State) :
    requestIfSelected i s = { s with ifReg := if bit s.ppu.stat i then s.ifReg ||| 2 else s.ifReg } := by
  unfold requestIfSelected
  split <;> rfl

theorem byte_and_or (v : Byte) : ∀ m c : Byte, m ≤ 3 → c = 0x04 ∨ c = 0x00 →
    (((v &&& 0xFC) ||| m) &&& 0xFB) ||| c = (v &&& 0xF8) ||| c ||| m := by
  intro m c hm hc
  have : m = 0 ∨ m = 1 ∨ m = 2 ∨ m = 3 := by bv_omega
  revert v
  rcases this with rfl | rfl | rfl | rfl <;> rcases hc with rfl | rfl <;> decide

/-- Mode change and comparison, together (R396). -/
theorem compareLyc_setMode (irq : Bool) (m : Byte) (hm : m ≤ 3) (s : State) :
    compareLyc irq (setMode m s) = { s with
      ifReg := if irq && (s.ppu.ly == s.ppu.lyc) && bit s.ppu.stat 6 then s.ifReg ||| 2 else s.ifReg,
      ppu := { s.ppu with stat := statWith s.ppu.stat m (s.ppu.ly == s.ppu.lyc) } } := by
  have h6 : ∀ v : Byte, bit ((v &&& 0xFC) ||| m) 6 = bit v 6 := by
    have : m = 0 ∨ m = 1 ∨ m = 2 ∨ m = 3 := by bv_omega
    rcases this with rfl | rfl | rfl | rfl <;> decide
  rw [compareLyc_eq]
  unfold statWith
  rw [← byte_and_or _ _ _ hm (by split <;> simp)]
  simp only [setMode, setStat, h6, beq_iff_eq]
  split <;> rfl

/-- The mode of a `STAT` value put together by `statWith`. -/
theorem statWith_mode : ∀ (v : Byte) (c : Bool), (statWith v 0 c).setWidth 2 = (0 : BitVec 2) ∧
    (statWith v 1 c).setWidth 2 = (1 : BitVec 2) ∧ (statWith v 2 c).setWidth 2 = (2 : BitVec 2) ∧
    (statWith v 3 c).setWidth 2 = (3 : BitVec 2) := by
  decide

/-- The select bits survive. -/
theorem statWith_select : ∀ (v : Byte) (c : Bool) (m : Byte), m ≤ 3 →
    bit (statWith v m c) 3 = bit v 3 ∧ bit (statWith v m c) 4 = bit v 4 ∧ bit (statWith v m c) 5 = bit v 5 ∧
    bit (statWith v m c) 6 = bit v 6 := by
  intro v c m hm
  have : m = 0 ∨ m = 1 ∨ m = 2 ∨ m = 3 := by bv_omega
  revert v c
  rcases this with rfl | rfl | rfl | rfl <;> decide

/-- Mode 2 to mode 3 (R382). -/
theorem enterTransfer_eq (s : State) :
    enterTransfer s = { s with ppu := { s.ppu with
      stat := statWith s.ppu.stat 3 (s.ppu.ly == s.ppu.lyc),
      framebuffer := if bit s.ppu.lcdc 7 then
          s.ppu.framebuffer.setIfInBounds s.ppu.ly.toNat (renderedRow s s.ppu.ly.toNat)
        else s.ppu.framebuffer } } := by
  unfold enterTransfer
  rw [compareLyc_setMode false 3 (by decide)]
  dsimp only
  split
  · rfl
  · rfl

/-- Mode 3 to mode 0, before its DMA chunk (R383). -/
theorem hblank_eq (s : State) :
    requestIfSelected 3 (compareLyc false (setMode 0 s)) = { s with
      ifReg := ppuRequests s.ifReg false (bit s.ppu.stat 3),
      ppu := { s.ppu with stat := statWith s.ppu.stat 0 (s.ppu.ly == s.ppu.lyc) } } := by
  rw [compareLyc_setMode false 0 (by decide), requestIfSelected_eq]
  dsimp only
  rw [(statWith_select _ _ 0 (by decide)).1]
  unfold ppuRequests
  cases bit s.ppu.stat 3 <;> simp

/-- The end of a visible line (R384). -/
theorem endVisibleLine_eq (s : State) :
    endVisibleLine s =
      if s.ppu.ly = 143 then { s with
        ifReg := ppuRequests s.ifReg true (bit s.ppu.stat 4 || (bit s.ppu.stat 6 && s.ppu.lyc == 144)),
        ppu := { s.ppu with
          ly := 144, stat := statWith s.ppu.stat 1 (s.ppu.lyc == 144),
          framesOut := s.ppu.framesOut ++ [s.ppu.framebuffer] } }
      else { s with
        ifReg := ppuRequests s.ifReg false (bit s.ppu.stat 5 || (bit s.ppu.stat 6 && s.ppu.ly + 1 == s.ppu.lyc)),
        ppu := { s.ppu with ly := s.ppu.ly + 1, stat := statWith s.ppu.stat 2 (s.ppu.ly + 1 == s.ppu.lyc) } } := by
  have h144 : (s.ppu.ly + 1 = Config.nVisible) ↔ s.ppu.ly = 143 := by
    constructor
    · intro h
      have : s.ppu.ly + 1 - 1 = (144 : Byte) - 1 := by rw [h]
      simpa using this
    · intro h; rw [h]; rfl
  unfold endVisibleLine
  simp only [setLy, h144]
  split
  · next h =>
    rw [compareLyc_setMode true 1 (by decide), requestIfSelected_eq]
    have he : (s.ppu.ly + 1) = 144 := h144.2 h
    have hs : ((144 : Byte) == s.ppu.lyc) = (s.ppu.lyc == 144) := by
      rw [Bool.eq_iff_iff, beq_iff_eq, beq_iff_eq]; exact eq_comm
    simp only [request, he, (statWith_select s.ppu.stat _ 1 (by decide)).2.1, hs, ppuRequests, deliverFrame]
    cases bit s.ppu.stat 4 <;> cases bit s.ppu.stat 6 <;> cases (s.ppu.lyc == 144) <;>
      simp only [Bool.or_true, Bool.or_false, Bool.and_true, Bool.and_false, if_true, Bool.false_eq_true, if_false] <;>
      exact congrArg (fun v => ({ s with ifReg := v, ppu := _ } : State)) (by generalize s.ifReg = v; revert v; decide)
  · next h =>
    rw [compareLyc_setMode true 2 (by decide), requestIfSelected_eq]
    simp only [(statWith_select s.ppu.stat _ 2 (by decide)).2.2.1, ppuRequests]
    cases bit s.ppu.stat 5 <;> cases bit s.ppu.stat 6 <;> cases (s.ppu.ly + 1 == s.ppu.lyc) <;>
      simp [BitVec.or_assoc]

theorem compare_mode1 : ∀ (v : Byte) (c : Bool), v.setWidth 2 = (1 : BitVec 2) →
    (v &&& 0xFB) ||| (if c then 0x04 else 0x00) = statWith v 1 c := by
  decide

/-- The end of a V-blank line (R385). -/
theorem endVblankLine_eq (s : State) (hm : ppuMode s = 1) :
    endVblankLine s =
      if s.ppu.ly = 153 then { s with
        ifReg := ppuRequests s.ifReg false (bit s.ppu.stat 5 || (bit s.ppu.stat 6 && s.ppu.lyc == 0)),
        ppu := { s.ppu with ly := 0, stat := statWith s.ppu.stat 2 (s.ppu.lyc == 0) } }
      else { s with
        ifReg := ppuRequests s.ifReg false (bit s.ppu.stat 6 && s.ppu.ly + 1 == s.ppu.lyc),
        ppu := { s.ppu with ly := s.ppu.ly + 1, stat := statWith s.ppu.stat 1 (s.ppu.ly + 1 == s.ppu.lyc) } } := by
  have h154 : (s.ppu.ly + 1 = Config.nLines) ↔ s.ppu.ly = 153 := by
    constructor
    · intro h
      have : s.ppu.ly + 1 - 1 = (154 : Byte) - 1 := by rw [h]
      simpa using this
    · intro h; rw [h]; rfl
  unfold endVblankLine
  simp only [setLy, h154]
  split
  · next h =>
    rw [compareLyc_setMode true 2 (by decide), requestIfSelected_eq]
    have hs : ((0 : Byte) == s.ppu.lyc) = (s.ppu.lyc == 0) := by
      rw [Bool.eq_iff_iff, beq_iff_eq, beq_iff_eq]; exact eq_comm
    simp only [(statWith_select s.ppu.stat _ 2 (by decide)).2.2.1, ppuRequests, hs]
    cases bit s.ppu.stat 5 <;> cases bit s.ppu.stat 6 <;> cases (s.ppu.lyc == 0) <;> simp [BitVec.or_assoc]
  · next h =>
    rw [compareLyc_eq]
    have hst := compare_mode1 s.ppu.stat (s.ppu.ly + 1 == s.ppu.lyc) hm
    simp only [beq_iff_eq] at hst
    simp only [hst, ppuRequests]
    cases bit s.ppu.stat 6 <;> cases (s.ppu.ly + 1 == s.ppu.lyc) <;> simp

/-- The loop stops below the threshold, whatever the fuel. -/
theorem ppuLoop_stop (fuel : Nat) (s : State) (h : s.ppu.cycles < modeLength (ppuMode s)) : ppuLoop fuel s = .ok s := by
  cases fuel with
  | zero => rfl
  | succ n => simp only [ppuLoop, Nat.not_le.2 h, if_false]

/-- One round of the loop, that then stops. -/
theorem ppuAdvance_once (c : Nat) (s t : State) (hge : modeLength (ppuMode s) ≤ s.ppu.cycles + c)
    (hl : leaveMode (ppuMode s) (setPpuCycles s (s.ppu.cycles + c - modeLength (ppuMode s))) = .ok t)
    (hlt : t.ppu.cycles < modeLength (ppuMode t)) : ppuAdvance c s = .ok t := by
  unfold ppuAdvance
  have hm : ppuMode (setPpuCycles s (s.ppu.cycles + c)) = ppuMode s := rfl
  have hn : (setPpuCycles s (s.ppu.cycles + c)).ppu.cycles = s.ppu.cycles + c := rfl
  have hs : setPpuCycles (setPpuCycles s (s.ppu.cycles + c)) (s.ppu.cycles + c - modeLength (ppuMode s)) =
    setPpuCycles s (s.ppu.cycles + c - modeLength (ppuMode s)) := rfl
  simp only [ppuLoop, hm, hn, hge, if_true, hs, hl]
  exact ppuLoop_stop _ _ hlt

/-- A round that raises a `Fatal`. -/
theorem ppuAdvance_error (c : Nat) (s : State) (f : Fault) (hge : modeLength (ppuMode s) ≤ s.ppu.cycles + c)
    (hl : leaveMode (ppuMode s) (setPpuCycles s (s.ppu.cycles + c - modeLength (ppuMode s))) = .error f) :
    ppuAdvance c s = .error f := by
  unfold ppuAdvance
  have hm : ppuMode (setPpuCycles s (s.ppu.cycles + c)) = ppuMode s := rfl
  have hn : (setPpuCycles s (s.ppu.cycles + c)).ppu.cycles = s.ppu.cycles + c := rfl
  have hs : setPpuCycles (setPpuCycles s (s.ppu.cycles + c)) (s.ppu.cycles + c - modeLength (ppuMode s)) =
    setPpuCycles s (s.ppu.cycles + c - modeLength (ppuMode s)) := rfl
  simp only [ppuLoop, hm, hn, hge, if_true, hs, hl]

/-- Below the threshold only the cycle count moves (R381). -/
theorem ppuAdvance_below (c : Nat) (s : State) (h : s.ppu.cycles + c < modeLength (ppuMode s)) :
    ppuAdvance c s = .ok (setPpuCycles s (s.ppu.cycles + c)) :=
  ppuLoop_stop _ _ h

/-- The DMA chunk changes video RAM and the transfer registers (R344). -/
theorem hblankDmaChunk_ok {s t : State} (h : hblankDmaChunk s = .ok t) :
    ∃ vram d, t = { s with mem := { s.mem with vram := vram }, ppu := { s.ppu with hdma := d } } := by
  unfold hblankDmaChunk at h
  split at h
  · cases h; exact ⟨s.mem.vram, s.ppu.hdma, rfl⟩
  · split at h
    · split at h
      · cases h
      · next u hu =>
        obtain ⟨o, ho⟩ : ∃ o, u = { s with mem := { s.mem with vram := o } } := ⟨_, copyBytes_frame _ _ _ _ _ _ hu⟩
        cases h; clear hu; subst ho
        exact ⟨o, _, rfl⟩
    · cases h; exact ⟨s.mem.vram, s.ppu.hdma, rfl⟩

/-- The DMA chunk keeps the invariant (R48). -/
theorem hblankDmaChunk_busInv {s t : State} (h : hblankDmaChunk s = .ok t) (hi : BusInv s) : BusInv t := by
  unfold hblankDmaChunk at h
  split at h
  · cases h; exact hi
  · next hcgb =>
    split at h
    · split at h
      · cases h
      · next u hu =>
        have hsz : vramSize s.launch.variant = 0x4000 := by rw [hcgb]; rfl
        have hw := (Mem.wf_iff _ _).1 hi.memWf
        have hwo := copyBytes_wf _ _ _ _ _ _ hu (by rw [← hsz]; exact hw.1)
        obtain ⟨o, ho⟩ : ∃ o, u = { s with mem := { s.mem with vram := o } } := ⟨_, copyBytes_frame _ _ _ _ _ _ hu⟩
        cases h; clear hu; subst ho
        have hc := hi.chunks
        refine ⟨hi.lyRange, hi.visible, by simp only [setHdma]; omega, fun e => ?_, hi.bcpsBit, hi.ocpsBit, hi.cartWf,
          (Mem.wf_iff _ _).2 ⟨?_, hw.2⟩⟩
        · simp only [setHdma] at e ⊢
          simp at e; omega
        · show Memory.wf (vramSize s.launch.variant) _ = true
          rw [hsz]; exact hwo
    · cases h; exact hi

/-- What leaving a mode keeps, and where `ppu_cycles` stays. -/
theorem leaveMode_keeps {s t : State} (h : leaveMode (ppuMode s) s = .ok t) :
    PpuKeeps s t ∧ t.ppu.cycles = s.ppu.cycles := by
  unfold leaveMode at h
  split at h
  · cases h; rw [enterTransfer_eq]; exact ⟨⟨rfl, rfl, rfl, rfl, rfl, rfl, rfl, rfl⟩, rfl⟩
  · split at h
    · unfold enterHblank at h
      rw [hblank_eq] at h
      obtain ⟨v, d, rfl⟩ := hblankDmaChunk_ok h
      exact ⟨⟨rfl, rfl, rfl, rfl, rfl, rfl, rfl, rfl⟩, rfl⟩
    · split at h
      · cases h; rw [endVisibleLine_eq]
        split <;> exact ⟨⟨rfl, rfl, rfl, rfl, rfl, rfl, rfl, rfl⟩, rfl⟩
      · cases h
        rw [endVblankLine_eq s (by bv_omega)]
        split <;> exact ⟨⟨rfl, rfl, rfl, rfl, rfl, rfl, rfl, rfl⟩, rfl⟩

/-- Leaving a mode keeps the invariant (R394). -/
theorem leaveMode_busInv {s t : State} (h : leaveMode (ppuMode s) s = .ok t) (hi : BusInv s) : BusInv t := by
  have step : ∀ u : State, u.launch = s.launch → u.cart = s.cart → u.mem = s.mem → u.ppu.hdma = s.ppu.hdma →
      u.ppu.bcps = s.ppu.bcps → u.ppu.ocps = s.ppu.ocps → u.ppu.ly.toNat ≤ 153 →
      (ppuMode u ≠ 1 → u.ppu.ly.toNat ≤ 143) → BusInv u := by
    intro u h1 h2 h3 h4 h5 h6 h7 h8
    exact ⟨h7, h8, h4 ▸ hi.chunks, h4 ▸ hi.armed, h5 ▸ hi.bcpsBit, h6 ▸ hi.ocpsBit, h2 ▸ hi.cartWf, h1 ▸ h3 ▸ hi.memWf⟩
  have hly := hi.lyRange
  unfold leaveMode at h
  split at h
  · next hm =>
    cases h; rw [enterTransfer_eq]
    exact step _ rfl rfl rfl rfl rfl rfl hly fun _ => hi.visible (by rw [hm]; decide)
  · split at h
    · next hm =>
      unfold enterHblank at h
      rw [hblank_eq] at h
      exact hblankDmaChunk_busInv h
        (step _ rfl rfl rfl rfl rfl rfl hly fun _ => hi.visible (by rw [hm]; decide))
    · split at h
      · next hm =>
        have hv := hi.visible (by rw [hm]; decide)
        cases h; rw [endVisibleLine_eq]
        split
        · exact step _ rfl rfl rfl rfl rfl rfl (show (144 : Byte).toNat ≤ 153 by decide) fun hne => absurd (statWith_mode _ _).2.1 hne
        · next h143 =>
          have : s.ppu.ly.toNat ≠ 143 := fun e => h143 (BitVec.eq_of_toNat_eq e)
          have hs : (s.ppu.ly + 1).toNat = s.ppu.ly.toNat + 1 := by bv_omega
          exact step _ rfl rfl rfl rfl rfl rfl (by dsimp only; omega) fun _ => by dsimp only; omega
      · have hm : ppuMode s = 1 := by bv_omega
        cases h
        rw [endVblankLine_eq s hm]
        split
        · exact step _ rfl rfl rfl rfl rfl rfl (show (0 : Byte).toNat ≤ 153 by decide)
            fun _ => show (0 : Byte).toNat ≤ 143 by decide
        · next h153 =>
          have : s.ppu.ly.toNat ≠ 153 := fun e => h153 (BitVec.eq_of_toNat_eq e)
          have hs : (s.ppu.ly + 1).toNat = s.ppu.ly.toNat + 1 := by bv_omega
          exact step _ rfl rfl rfl rfl rfl rfl (by dsimp only; omega) fun hne => absurd (statWith_mode _ _).2.1 hne

theorem modeLength_ge (m : BitVec 2) : 80 ≤ modeLength m := by
  unfold modeLength; split
  · decide
  · split
    · decide
    · split <;> decide

/-- The whole loop: what it keeps, the invariant, and that it ends below the threshold when the fuel covers it (log 17). -/
theorem ppuLoop_keeps (fuel : Nat) : ∀ {s t : State}, ppuLoop fuel s = .ok t →
    PpuKeeps s t ∧ (BusInv s → BusInv t) ∧ (s.ppu.cycles / 80 < fuel → t.ppu.cycles < modeLength (ppuMode t)) := by
  induction fuel with
  | zero => intro s t h; cases h; exact ⟨.refl s, id, fun h => absurd h (Nat.not_lt_zero _)⟩
  | succ n ih =>
    intro s t h
    simp only [ppuLoop] at h
    split at h
    · next hge =>
      split at h
      · cases h
      · next u hu =>
        have hk := leaveMode_keeps (s := setPpuCycles s (s.ppu.cycles - modeLength (ppuMode s))) hu
        obtain ⟨i1, i2, i3⟩ := ih h
        refine ⟨PpuKeeps.trans (PpuKeeps.trans (setPpuCycles_keeps s _) hk.1) i1, fun hb => i2 ?_,
          fun hf => i3 ?_⟩
        · refine leaveMode_busInv (s := setPpuCycles s (s.ppu.cycles - modeLength (ppuMode s))) hu ?_
          exact ⟨hb.lyRange, hb.visible, hb.chunks, hb.armed, hb.bcpsBit, hb.ocpsBit, hb.cartWf, hb.memWf⟩
        · have h80 := modeLength_ge (ppuMode s)
          rw [hk.2]
          simp only [setPpuCycles]
          omega
    · next hlt => cases h; exact ⟨.refl s, id, fun _ => Nat.not_le.1 hlt⟩

/-- What `ppu_advance` keeps, and that it ends below the threshold (R381). -/
theorem ppuAdvance_keeps {c : Nat} {s t : State} (h : ppuAdvance c s = .ok t) :
    PpuKeeps s t ∧ (BusInv s → BusInv t) ∧ t.ppu.cycles < modeLength (ppuMode t) := by
  obtain ⟨h1, h2, h3⟩ := ppuLoop_keeps _ h
  refine ⟨PpuKeeps.trans (setPpuCycles_keeps s _) h1, fun hb => h2 ?_, h3 ?_⟩
  · exact ⟨hb.lyRange, hb.visible, hb.chunks, hb.armed, hb.bcpsBit, hb.ocpsBit, hb.cartWf, hb.memWf⟩
  · simp only [setPpuCycles]; exact Nat.lt_succ_self _

/-- A short advance crosses at most one threshold. -/
theorem ppuAdvance_short (c : Nat) (s : State) (h : s.ppu.cycles + c < modeLength (ppuMode s) + 80) :
    ppuAdvance c s =
      if s.ppu.cycles + c < modeLength (ppuMode s) then .ok (setPpuCycles s (s.ppu.cycles + c))
      else leaveMode (ppuMode s) (setPpuCycles s (s.ppu.cycles + c - modeLength (ppuMode s))) := by
  split
  · next hlt => exact ppuAdvance_below c s hlt
  · next hge =>
    cases hl : leaveMode (ppuMode s) (setPpuCycles s (s.ppu.cycles + c - modeLength (ppuMode s))) with
    | error f => exact ppuAdvance_error c s f (Nat.not_lt.1 hge) hl
    | ok t =>
      refine ppuAdvance_once c s t (Nat.not_lt.1 hge) hl ?_
      have hk := (leaveMode_keeps (s := setPpuCycles s (s.ppu.cycles + c - modeLength (ppuMode s))) hl).2
      have := modeLength_ge (ppuMode t)
      rw [hk]; simp only [setPpuCycles]; omega

/-- Where each transition takes the mode, `LY` and the delivered frames (R382 to R385, R389). -/
structure ModeChange (s t : State) : Prop where
  fromOam : ppuMode s = 2 → ppuMode t = 3 ∧ t.ppu.ly = s.ppu.ly ∧ t.ppu.framesOut = s.ppu.framesOut
  fromTransfer : ppuMode s = 3 → ppuMode t = 0 ∧ t.ppu.ly = s.ppu.ly ∧ t.ppu.framesOut = s.ppu.framesOut
  fromHblank : ppuMode s = 0 → s.ppu.ly ≠ 143 →
    ppuMode t = 2 ∧ t.ppu.ly = s.ppu.ly + 1 ∧ t.ppu.framesOut = s.ppu.framesOut
  toVblank : ppuMode s = 0 → s.ppu.ly = 143 → ppuMode t = 1 ∧ t.ppu.ly = 144 ∧
    t.ppu.framesOut = s.ppu.framesOut ++ [s.ppu.framebuffer] ∧ t.ppu.framebuffer = s.ppu.framebuffer ∧ t.ifReg.getLsbD 0 = true
  inVblank : ppuMode s = 1 → s.ppu.ly ≠ 153 →
    ppuMode t = 1 ∧ t.ppu.ly = s.ppu.ly + 1 ∧ t.ppu.framesOut = s.ppu.framesOut
  fromVblank : ppuMode s = 1 → s.ppu.ly = 153 → ppuMode t = 2 ∧ t.ppu.ly = 0 ∧ t.ppu.framesOut = s.ppu.framesOut

/-- Every transition is one of them. -/
theorem leaveMode_change {s t : State} (h : leaveMode (ppuMode s) s = .ok t) : ModeChange s t := by
  have mode := statWith_mode s.ppu.stat
  unfold leaveMode at h
  split at h
  · next hm =>
    cases h; rw [enterTransfer_eq]
    constructor <;> intro hm' <;> rw [hm] at hm' <;> try cases hm'
    exact ⟨(mode _).2.2.2, rfl, rfl⟩
  · split at h
    · next hm =>
      unfold enterHblank at h
      rw [hblank_eq] at h
      obtain ⟨v, d, rfl⟩ := hblankDmaChunk_ok h
      constructor <;> intro hm' <;> rw [hm] at hm' <;> try cases hm'
      exact ⟨(mode _).1, rfl, rfl⟩
    · split at h
      · next hm =>
        cases h; rw [endVisibleLine_eq]
        constructor <;> intro hm' <;> rw [hm] at hm' <;> try cases hm'
        · intro hly; rw [if_neg hly]; exact ⟨(mode _).2.2.1, rfl, rfl⟩
        · intro hly; rw [if_pos hly]
          refine ⟨(mode _).2.1, rfl, rfl, rfl, ?_⟩
          dsimp only [ppuRequests]; simp
      · have hm : ppuMode s = 1 := by bv_omega
        cases h
        rw [endVblankLine_eq s hm]
        constructor <;> intro hm' <;> rw [hm] at hm' <;> try cases hm'
        · intro hly; rw [if_neg hly]; exact ⟨(mode _).2.1, rfl, rfl⟩
        · intro hly; rw [if_pos hly]; exact ⟨(mode _).2.2.1, rfl, rfl⟩

/-- What every round of the loop carries on, the whole loop does (R381): `P m s` speaks of the start of a mode, `m` cycles after
some moment; the cycles of a mode come off the count as the mode is left. -/
theorem ppuLoop_induction {P : Nat → State → Prop}
    (round : ∀ (m n : Nat) (s t : State), P m s → leaveMode (ppuMode s) (setPpuCycles s n) = .ok t →
      P (m + modeLength (ppuMode s)) t) (fuel : Nat) :
    ∀ {s t : State} {m : Nat}, ppuLoop fuel s = .ok t → P m s → ∃ k, P k t ∧ k + t.ppu.cycles = m + s.ppu.cycles := by
  induction fuel with
  | zero => intro s t m h hp; cases h; exact ⟨m, hp, rfl⟩
  | succ fuel ih =>
    intro s t m h hp
    simp only [ppuLoop] at h
    split at h
    · next hge =>
      split at h
      · cases h
      · next u hu =>
        have hc := (leaveMode_keeps (s := setPpuCycles s (s.ppu.cycles - modeLength (ppuMode s))) hu).2
        obtain ⟨k, hk, he⟩ := ih h (round m _ s u hp hu)
        exact ⟨k, hk, by rw [he, hc]; simp only [setPpuCycles]; omega⟩
    · cases h; exact ⟨m, hp, rfl⟩

/-- The PPU raises no other `Fatal` than the reads of its DMA chunk (R506). -/
theorem ppuAdvance_busFault {c : Nat} {s : State} {f : Fault} (h : ppuAdvance c s = .error f) : BusFault s f := by
  have chunk : ∀ {s : State}, hblankDmaChunk s = .error f → BusFault s f := by
    intro s h
    unfold hblankDmaChunk at h
    split at h
    · cases h
    · split at h
      · split at h
        · next hc => cases h; exact copyBytes_busFault hc
        · cases h
      · cases h
  have leave : ∀ {s : State}, leaveMode (ppuMode s) s = .error f → BusFault s f := by
    intro s h
    unfold leaveMode at h
    split at h
    · cases h
    · split at h
      · unfold enterHblank at h
        rw [hblank_eq] at h
        exact (chunk h).congr rfl
      · split at h <;> cases h
  have loop : ∀ (n : Nat) {s : State}, ppuLoop n s = .error f → BusFault s f := by
    intro n
    induction n with
    | zero => intro s h; cases h
    | succ n ih =>
      intro s h
      simp only [ppuLoop] at h
      split at h
      · split at h
        · next hl =>
          cases h
          exact (leave (s := setPpuCycles s (s.ppu.cycles - modeLength (ppuMode s))) hl).congr rfl
        · next u hu =>
          have hk := leaveMode_keeps (s := setPpuCycles s (s.ppu.cycles - modeLength (ppuMode s))) hu
          exact (ih h).congr hk.1.launch
      · cases h
  exact (loop _ h).congr rfl

/-- The timer changes its own registers and requests only its interrupt (R511, R512). -/
theorem timerAdvance_frame (c : Nat) (s : State) :
    ∃ d t b f, (f = s.ifReg ∨ f = s.ifReg ||| 4) ∧
      timerAdvance c s = { s with
        ifReg := f,
        timer := { s.timer with div := d, divAcc := (s.timer.divAcc + c) % divPeriod s, tima := t, timaAcc := b } } := by
  have hdiv : ∀ n (s : State), ∃ d, rounds tickDiv n s = { s with timer := { s.timer with div := d } } := by
    intro n
    induction n with
    | zero => exact fun s => ⟨s.timer.div, rfl⟩
    | succ n ih => exact fun s => ih (tickDiv s)
  have htima : ∀ n (s : State), ∃ t f, (f = s.ifReg ∨ f = s.ifReg ||| 4) ∧
      rounds tickTima n s = { s with ifReg := f, timer := { s.timer with tima := t } } := by
    intro n
    induction n with
    | zero => exact fun s => ⟨s.timer.tima, s.ifReg, .inl rfl, rfl⟩
    | succ n ih =>
      intro s
      obtain ⟨t, f, hf, h⟩ := ih (tickTima s)
      have hr : rounds tickTima (n + 1) s = rounds tickTima n (tickTima s) := rfl
      rw [hr, h]
      unfold tickTima at hf ⊢
      split
      · next he =>
        rw [if_pos he] at hf
        refine ⟨t, f, ?_, rfl⟩
        simp only [request] at hf
        rcases hf with rfl | rfl
        · exact .inr rfl
        · exact .inr (by rw [BitVec.or_assoc]; rfl)
      · next he => rw [if_neg he] at hf; exact ⟨t, f, hf, rfl⟩
  unfold timerAdvance advanceDiv advanceTima
  obtain ⟨d, hd⟩ := hdiv ((s.timer.divAcc + c) / divPeriod s) s
  simp only [hd]
  split
  · obtain ⟨t, f, hf, h⟩ := htima ((s.timer.timaAcc + c) / timaPeriod
      { s with timer := { s.timer with div := d, divAcc := (s.timer.divAcc + c) % divPeriod s } })
      { s with timer := { s.timer with div := d, divAcc := (s.timer.divAcc + c) % divPeriod s } }
    exact ⟨d, t, _, f, hf, by rw [h]⟩
  · exact ⟨d, s.timer.tima, s.timer.timaAcc, s.ifReg, .inl rfl, rfl⟩

end Sys2Proof.Machine
end

