-- ==== Sys2Proof/Laws/Driver.lean ====
section
/-! SUPPORT. What the CPU step and the driver's step can do. -/

namespace Sys2Proof.Machine

/-- Polling the external unit changes that unit and `IF` bits 3 and 4 (R488). -/
theorem pollExt_frame (s : State) :
    pollExt s = { s with ext := (pollExt s).ext, ifReg := (pollExt s).ifReg } ∧
      ∃ m : BitVec 2, (pollExt s).ifReg = s.ifReg ||| (m.setWidth 5 <<< 3) := by
  unfold pollExt
  split
  · exact ⟨rfl, 0, by simp⟩
  · exact ⟨rfl, _, rfl⟩
  · exact ⟨rfl, _, rfl⟩

/-- What a CPU step that raised nothing leaves: `u` after its stores, `c` in the CPU. -/
structure CpuStepEffect (s u : State) (c : Cpu) : Prop where
  writes : WriteKeeps s { u with cpu := s.cpu }
  busInv : BusInv s → BusInv u
  cost : if interruptDue s then c.cycles = s.launch.intServiceCycles else costOk c.cycles = true
  flags : s.cpu.f &&& 0x0F = 0 → c.f &&& 0x0F = 0

/-- Which `Fatal` a CPU step can raise (R506): an illegal opcode or `STOP` that was fetched at `PC`, or a bus fault. -/
def CpuFault (s : State) (x : Fault) : Prop :=
  (∃ i op, fetch s = .ok i ∧ i.form = .illegal op ∧ x = .unmappedOpcode op s.cpu.pc) ∨
  (∃ i skipped, fetch s = .ok i ∧ i.form = .stop skipped ∧ x = .unimplementedOpcode 0x10 s.cpu.pc) ∨ BusFault s x

theorem fetch_cpu (s : State) (h : Bool) : fetch { s with cpu := { s.cpu with halted := h } } = fetch s := rfl

theorem fetch_busFault {s : State} {f : Fault} (h : fetch s = .error f) : BusFault s f := by
  unfold fetch at h
  dsimp only at h
  split at h
  · next hr => cases h; exact memRead_busFault hr
  · split at h
    · cases h
    · split at h
      · next hr => cases h; exact memRead_busFault hr
      · split at h
        · cases h
        · split at h
          · next hr => cases h; exact memRead_busFault hr
          · cases h

/-- Fetching and executing. -/
theorem runInstruction_cases (s : State) (hd : interruptDue s = false) :
    (∃ x, CpuFault s x ∧ runInstruction s = raiseFatal x s) ∨
    ∃ u c, CpuStepEffect s u c ∧ runInstruction s = .next { u with cpu := c } := by
  unfold runInstruction
  cases hf : fetch s with
  | error f => exact .inl ⟨f, .inr (.inr (fetch_busFault hf)), rfl⟩
  | ok i =>
    rcases exec_outcomes i s with ⟨x, hx, h⟩ | ⟨u, c, hs, hc, h⟩
    · refine .inl ⟨x, ?_, h⟩
      rcases hx with ⟨op, hi, hx⟩ | ⟨⟨skipped, hi⟩, hx⟩ | hx
      · exact .inl ⟨i, op, hf, hi, hx⟩
      · exact .inr (.inl ⟨i, skipped, hf, hi, hx⟩)
      · exact .inr (.inr hx)
    · have hk := hs.keeps
      exact .inr ⟨u, c, ⟨⟨rfl, hk.launch, hk.fault, hk.divAcc, hk.timaAcc, hk.div, hk.stat, hk.ly, hk.cycles,
        hk.framebuffer, hk.framesOut, hk.rom, hk.supplied, hk.extScripted⟩, hs.busInv, by rw [hd]; exact hc.cost, hc.flags⟩, h⟩

/-- Interrupt entry. -/
theorem takeInterrupt_cases (s : State) (hd : interruptDue s = true) :
    (∃ x, BusFault s x ∧ takeInterrupt s = raiseFatal x s) ∨
    ∃ u c, CpuStepEffect s u c ∧ takeInterrupt s = .next { u with cpu := c } := by
  unfold takeInterrupt
  dsimp only
  cases hp : push16 { s with ifReg := s.ifReg &&& ~~~((1 : BitVec 5) <<< lowestSet (pending s)),
                             cpu := { s.cpu with halted := false, ime := false } } s.cpu.pc with
  | error f => exact .inl ⟨f, (push16_busFault hp).congr rfl, rfl⟩
  | ok t =>
    obtain ⟨t1, t2, h1, h2, rfl⟩ := push16_keeps hp
    have hk := (memWrite_keeps h1).trans (memWrite_keeps h2)
    refine .inr ⟨t2, { s.cpu with halted := false, ime := false, sp := s.cpu.sp - 2, pc := vector (lowestSet (pending s)),
                                  cycles := s.launch.intServiceCycles }, ⟨⟨rfl, hk.launch, hk.fault, hk.divAcc, hk.timaAcc, hk.div, hk.stat, hk.ly, hk.cycles,
        hk.framebuffer, hk.framesOut, hk.rom, hk.supplied, hk.extScripted⟩, fun hb => ?_, by rw [hd]; rfl, fun h => h⟩, rfl⟩
    refine memWrite_busInv h2 (memWrite_busInv h1 ?_)
    exact ⟨hb.lyRange, hb.visible, hb.chunks, hb.armed, hb.bcpsBit, hb.ocpsBit, hb.cartWf, hb.memWf⟩

/-- The CPU step: it raises a `Fatal` (of the halted CPU only `halted` has then changed beside), or does what
`CpuStepEffect` says (R490 to R492). -/
theorem cpuStep_cases (s : State) :
    (∃ x h, CpuFault s x ∧ cpuStep s = .next { s with cpu := { s.cpu with halted := h }, fault := some x }) ∨
    ∃ u c, CpuStepEffect s u c ∧ cpuStep s = .next { u with cpu := c } := by
  unfold cpuStep
  split
  · next hd =>
    rcases takeInterrupt_cases s hd with ⟨x, hx, h⟩ | h
    · exact .inl ⟨x, s.cpu.halted, .inr (.inr hx), h⟩
    · exact .inr h
  · next hd =>
    have hd : interruptDue s = false := Bool.eq_false_iff.2 hd
    split
    · split
      · rcases runInstruction_cases { s with cpu := { s.cpu with halted := false } } hd with ⟨x, hx, h⟩ | ⟨u, c, hc, h⟩
        · exact .inl ⟨x, false, hx, h⟩
        · exact .inr ⟨u, c, ⟨⟨rfl, hc.writes.launch, hc.writes.fault, hc.writes.divAcc, hc.writes.timaAcc, hc.writes.div,
            hc.writes.stat, hc.writes.ly, hc.writes.cycles, hc.writes.framebuffer, hc.writes.framesOut, hc.writes.rom,
            hc.writes.supplied, hc.writes.extScripted⟩,
            fun hb => hc.busInv ⟨hb.lyRange, hb.visible, hb.chunks, hb.armed, hb.bcpsBit, hb.ocpsBit, hb.cartWf, hb.memWf⟩,
            hc.cost, hc.flags⟩, h⟩
      · exact .inr ⟨s, { s.cpu with cycles := Config.haltedCycles }, ⟨.refl s, id, by rw [hd]; rfl, id⟩, rfl⟩
    · rcases runInstruction_cases s hd with ⟨x, hx, h⟩ | h
      · exact .inl ⟨x, s.cpu.halted, hx, h⟩
      · exact .inr h

/-- The CPU step always answers a next state. -/
theorem cpuStep_next (s : State) : ∃ t, cpuStep s = .next t := by
  rcases cpuStep_cases s with ⟨x, h, _, e⟩ | ⟨u, c, _, e⟩ <;> exact ⟨_, e⟩

/-- A step is the CPU step at the polled state and then the units. -/
theorem step_eq {s t : State} (hf : s.fault = none) (h : cpuStep (pollExt s) = .next t) :
    step s = advanceUnits (pollExt s) t := by
  unfold step driverStep
  rw [hf]
  simp only [h]

/-- A machine that has faulted answers its `Fatal` (log 6). -/
theorem step_faulted {s : State} {f : Fault} (hf : s.fault = some f) : step s = .fault f := by
  unfold step; rw [hf]

/-- What a step can do: raise a `Fatal`, which leaves the polled state but for `fault` (and `halted`, when it ended a halt), or
finish its CPU step and both units. -/
theorem step_cases {s t : State} (hf : s.fault = none) (h : step s = .next t) :
    (∃ x hl, t = { pollExt s with cpu := { (pollExt s).cpu with halted := hl }, fault := some x }) ∨
    ∃ u c v, CpuStepEffect (pollExt s) u c ∧ cpuStep (pollExt s) = .next { u with cpu := c } ∧
      ppuAdvance c.cycles { u with cpu := c } = .ok v ∧ t = timerAdvance c.cycles v := by
  rcases cpuStep_cases (pollExt s) with ⟨x, hl, _, e⟩ | ⟨u, c, hc, e⟩
  · rw [step_eq hf e] at h; cases h; exact .inl ⟨x, hl, rfl⟩
  · have hw : ({ u with cpu := c } : State).fault = none :=
      hc.writes.fault.trans (by rw [(pollExt_frame s).1]; exact hf)
    rw [step_eq hf e] at h
    unfold advanceUnits at h
    split at h
    · next f ht => rw [hw] at ht; cases ht
    · split at h
      · next f hv => cases h; exact .inl ⟨f, (pollExt s).cpu.halted, rfl⟩
      · next v hv => cases h; exact .inr ⟨u, c, v, hc, e, hv, rfl⟩

end Sys2Proof.Machine
end

