-- ==== Sys2Proof/Tests/Slice0.lean ====
section
/-! SUPPORT. Tests on fixed values, their results taken from the worked examples and the vectors of spec/ (files 30 to 60 and 95),
and for every statement that has hypotheses a concrete state that meets them (`witness_<statement>`). -/

open Sys2Proof Sys2Proof.Machine

namespace Sys2Proof.Tests

/-! ## Helpers -/

/-- The start state of file 95 with `F = 0`: the instruction stands at 0x0100. -/
def cpu0 : Cpu := { Cpu.reset .dmg with f := 0 }

/-- The reset state with other CPU registers. -/
def start (c : Cpu) : State := { State.reset with cpu := c }

/-- The same with work RAM. -/
def startRam (c : Cpu) (wram : Memory) : State := { start c with mem := { Mem.empty with wram := wram } }

/-- The reset state of the Color variant. -/
def startCgb : State :=
  State.launched { Launch.default with variant := .cgb } (.noController []) (.scripted []) Mem.empty Frame.blank

/-- The step or instruction ends in a state with the property. -/
def ends (r : Result) (p : State → Bool) : Bool :=
  match r with
  | .next t => p t
  | _ => false

/-- The byte a read gives. -/
def peek (s : State) (a : Word) : Option Byte :=
  match memRead s a with
  | .ok v => some v
  | .error _ => none

/-- The write completes in a state with the property. -/
def wrote (r : Except Fault State) (p : State → Bool) : Bool :=
  match r with
  | .ok t => p t
  | .error _ => false

/-- The access raised this `Fatal`. -/
def raised {α : Type} (r : Except Fault α) (f : Fault) : Bool :=
  match r with
  | .ok _ => false
  | .error g => decide (g = f)

/-- The bytes decode to the instruction and nothing is left. -/
def decodesTo (bytes : List Byte) (i : Instr) : Bool :=
  match decode bytes with
  | .ok (j, []) => decide (j = i)
  | _ => false

theorem ends_next {r : Result} {p : State → Bool} (h : ends r p = true) : ∃ t, r = .next t ∧ p t = true := by
  cases r with
  | next t => exact ⟨t, rfl, h⟩
  | fault f => exact absurd h Bool.false_ne_true
  | refused f => exact absurd h Bool.false_ne_true

theorem wrote_ok {r : Except Fault State} {p : State → Bool} (h : wrote r p = true) : ∃ t, r = .ok t ∧ p t = true := by
  cases r with
  | ok t => exact ⟨t, rfl, h⟩
  | error f => exact absurd h Bool.false_ne_true

theorem peek_ok {s : State} {a : Word} {v : Byte} (h : peek s a = some v) : memRead s a = .ok v := by
  unfold peek at h
  split at h
  · rename_i w e; cases h; exact e
  · cases h

theorem raised_error {α : Type} {r : Except Fault α} {f : Fault} (h : raised r f = true) : r = .error f := by
  cases r with
  | ok t => exact absurd h Bool.false_ne_true
  | error g => exact congrArg _ (of_decide_eq_true h)

/-! ## WellFormed: the prefix byte alone is refused (R306), and no bytes decode to its row -/

theorem test_wellFormed_refuses_prefix : (Instr.prefix_CB 0x7C).wellFormed = false := by decide
theorem test_wellFormed_admits_others : (Instr.bit_7_H).wellFormed = true ∧ (Instr.illegal_D3).wellFormed = true := by decide

/-! ## Decoding: words written out from the encodings of R131 and R132 and of files 40 to 46 -/

theorem test_decode_load8 :
    decodesTo [0b01000001] .ld_B_C = true ∧ decodesTo [0b00111110, 0x2A] (.ld_A_n 0x2A) = true ∧
    decodesTo [0b01111110] .ld_A_mHL = true ∧ decodesTo [0b01110000] .ld_mHL_B = true ∧
    decodesTo [0b00110110, 0xE4] (.ld_mHL_n 0xE4) = true ∧ decodesTo [0xFA, 0x44, 0xFF] (.ld_A_mnn 0xFF44) = true ∧
    decodesTo [0xEA, 0x00, 0x20] (.ld_mnn_A 0x2000) = true ∧ decodesTo [0xF0, 0x41] (.ldh_A_mn 0x41) = true ∧
    decodesTo [0xE2] .ld_mC_A = true ∧ decodesTo [0x2A] .ld_A_mHLinc = true ∧ decodesTo [0x32] .ld_mHLdec_A = true := by
  decide

theorem test_decode_load16_stack :
    decodesTo [0b00100001, 0x00, 0x98] (.ld_HL_nn 0x9800) = true ∧ decodesTo [0x08, 0x00, 0xC1] (.ld_mnn_SP 0xC100) = true ∧
    decodesTo [0xF9] .ld_SP_HL = true ∧ decodesTo [0xF8, 0x02] (.ld_HL_SPe 0x02) = true ∧
    decodesTo [0b11110101] .push_AF = true ∧ decodesTo [0b11010001] .pop_DE = true := by decide

theorem test_decode_alu :
    decodesTo [0b10001011] .adc_A_E = true ∧ decodesTo [0x93] .sub_E = true ∧ decodesTo [0xFE, 0x40] (.cp_n 0x40) = true ∧
    decodesTo [0xA6] .and_mHL = true ∧ decodesTo [0x3C] .inc_A = true ∧ decodesTo [0x35] .dec_mHL = true ∧
    decodesTo [0x27] .daa = true ∧ decodesTo [0b00001001] .add_HL_BC = true ∧ decodesTo [0b00111011] .dec_SP = true ∧
    decodesTo [0xE8, 0xFF] (.add_SP_e 0xFF) = true := by decide

theorem test_decode_rotate_bit :
    decodesTo [0x1F] .rra = true ∧ decodesTo [0xCB, 0b00110111] .swap_A = true ∧ decodesTo [0xCB, 0x06] .rlc_mHL = true ∧
    decodesTo [0xCB, 0b01111100] .bit_7_H = true ∧ decodesTo [0xCB, 0b10000110] .res_0_mHL = true ∧
    decodesTo [0xCB, 0xFE] .set_7_mHL = true := by decide

theorem test_decode_control_misc :
    decodesTo [0xC3, 0x50, 0x01] (.jp_nn 0x0150) = true ∧ decodesTo [0x20, 0xFC] (.jr_NZ_e 0xFC) = true ∧
    decodesTo [0xDC, 0x00, 0x30] (.call_C_nn 0x3000) = true ∧ decodesTo [0xC8] .ret_Z = true ∧
    decodesTo [0xD9] .reti = true ∧ decodesTo [0b11101111] .rst_28 = true ∧ decodesTo [0x76] .halt = true ∧
    decodesTo [0xFB] .ei = true ∧ decodesTo [0x10, 0x00] .stop = true ∧ decodesTo [0x10, 0xFF] (.stop 0xFF) = true ∧ decodesTo [0xD3] .illegal_D3 = true := by decide

/-- The table's word numbering: the immediate's low byte is bits 15..8, the CB row's two bytes in reading order (log 9). -/
theorem test_decodeTableWord :
    decodeTableWord 24 0x015021 = some (.ld_HL_nn 0x0150) ∧ decodeTableWord 16 0xCB7C = some .bit_7_H ∧
    decodeTableWord 8 0x76 = some .halt := by decide

theorem test_decode_short_is_refused : decodesTo [] .nop = false ∧ decodesTo [0xC3, 0x50] (.jp_nn 0x0050) = false ∧
    decodesTo [0xCB] (.prefix_CB 0) = false ∧ decodesTo [0x10] .stop = false := by decide

/-- Lengths of R135, `STOP`'s 2 among them; a step reads only its first byte (R302, log 10). -/
theorem test_lengths : opLength 0x00 = 1 ∧ opLength 0x10 = 2 ∧ opLength 0x18 = 2 ∧ opLength 0x08 = 3 ∧ opLength 0xCB = 2 ∧
    opLength 0xD3 = 1 ∧ opLength 0xFA = 3 ∧ fetchLength 0x10 = 1 ∧ fetchLength 0x08 = 3 := by decide

/-! ## Instructions: the examples of files 40 to 46 -/

/-- R151: `C = 0x5A`, `41` gives `B = 0x5A`. -/
theorem test_ld_B_C : ends (exec .ld_B_C (start { cpu0 with c := 0x5A }))
    (fun t => t.cpu.b == 0x5A && t.cpu.c == 0x5A && t.cpu.pc == 0x0101 && t.cpu.cycles == 4) = true := by decide
/-- R153: `LD H,(HL)` reads at the old `HL`. -/
theorem test_ld_H_mHL : ends (exec .ld_H_mHL (startRam { cpu0 with h := 0xC1, l := 0x23 } [(0x123, 0x77)]))
    (fun t => t.cpu.h == 0x77 && t.cpu.l == 0x23 && t.cpu.cycles == 8) = true := by decide
/-- R155: `HL = 0xFF47`, `36 E4` gives `BGP = 0xE4`. -/
theorem test_ld_mHL_n : ends (exec (.ld_mHL_n 0xE4) (start { cpu0 with h := 0xFF, l := 0x47 }))
    (fun t => t.ppu.bgp == 0xE4 && t.cpu.pc == 0x0102 && t.cpu.cycles == 12) = true := by decide
/-- R166: the increment after the read. -/
theorem test_ld_A_mHLinc : ends (exec .ld_A_mHLinc (startRam { cpu0 with h := 0xC0, l := 0x00 } [(0, 0x42)]))
    (fun t => t.cpu.a == 0x42 && t.cpu.h == 0xC0 && t.cpu.l == 0x01) = true := by decide
/-- R169: `HL = 0xDFFF` down to 0xDFFE. -/
theorem test_ld_mHLdec_A : ends (exec .ld_mHLdec_A (start { cpu0 with a := 0x81, h := 0xDF, l := 0xFF }))
    (fun t => peek t 0xDFFF == some 0x81 && t.cpu.h == 0xDF && t.cpu.l == 0xFE) = true := by decide
/-- R163: `E0 FF` writes `IE`. -/
theorem test_ldh_mn_A : ends (exec (.ldh_mn_A 0xFF) (start { cpu0 with a := 0x01 }))
    (fun t => t.ie == 0x01 && t.cpu.pc == 0x0102 && t.cpu.cycles == 12) = true := by decide
/-- R162: `F0 03` on the unmapped 0xFF03, and under the sentinel policy. -/
theorem test_ldh_unmapped : ends (exec (.ldh_A_mn 0x03) (start cpu0))
      (fun t => t.fault == some (.unmappedAddress 0xFF03 false)) = true ∧
    ends (exec (.ldh_A_mn 0x03) { start cpu0 with launch := { Launch.default with unmappedPolicy := .sentinel } })
      (fun t => t.cpu.a == 0xFF && t.fault == none) = true := by decide
/-- R164: `C = 0x41` reads `STAT`. -/
theorem test_ld_A_mC : ends (exec .ld_A_mC (start { cpu0 with c := 0x41 })) (fun t => t.cpu.a == 0x06) = true := by decide
/-- R161: a store into ROM changes no ROM byte. -/
theorem test_ld_mnn_A_rom : ends (exec (.ld_mnn_A 0x2000) (start { cpu0 with a := 0x05 }))
    (fun t => peek t 0x2000 == some 0x00 && t.fault == none && t.cpu.pc == 0x0103) = true := by decide

/-- R180, R182. -/
theorem test_ld_pairs : ends (exec (.ld_BC_nn 0x1234) (start cpu0))
      (fun t => t.cpu.b == 0x12 && t.cpu.c == 0x34 && t.cpu.pc == 0x0103) = true ∧
    ends (exec .ld_SP_HL (start { cpu0 with h := 0xD1, l := 0x23 })) (fun t => t.cpu.sp == 0xD123) = true := by decide
/-- R181: the low byte lies lower. -/
theorem test_ld_mnn_SP : ends (exec (.ld_mnn_SP 0xC000) (start { cpu0 with sp := 0xABCD }))
    (fun t => peek t 0xC000 == some 0xCD && peek t 0xC001 == some 0xAB && t.cpu.cycles == 20) = true := by decide
/-- R183: a negative displacement can carry, and `Z` stays 0 on a zero result. -/
theorem test_ld_HL_SPe : ends (exec (.ld_HL_SPe 0xFF) (start { cpu0 with sp := 0x0001 }))
      (fun t => t.cpu.h == 0 && t.cpu.l == 0 && t.cpu.f == 0x30 && t.cpu.sp == 0x0001) = true ∧
    ends (exec (.ld_HL_SPe 0xFE) (start { cpu0 with sp := 0x0001 }))
      (fun t => t.cpu.h == 0xFF && t.cpu.l == 0xFF && t.cpu.f == 0x00) = true := by decide
/-- R184, with the corner `SP = 0x0001`: the low byte reaches `IE`. -/
theorem test_push : ends (exec .push_BC (start { cpu0 with b := 0x12, c := 0x34, sp := 0xD000 }))
      (fun t => peek t 0xCFFE == some 0x34 && peek t 0xCFFF == some 0x12 && t.cpu.sp == 0xCFFE) = true ∧
    ends (exec .push_HL (start { cpu0 with h := 0xBE, l := 0xEF, sp := 0x0001 }))
      (fun t => t.ie == 0xEF && t.cpu.sp == 0xFFFF) = true := by decide
/-- R185: `POP AF` drops the low nibble. -/
theorem test_pop_AF : ends (exec .pop_AF (startRam { cpu0 with sp := 0xC000 } [(0, 0xFF), (1, 0x12)]))
    (fun t => t.cpu.a == 0x12 && t.cpu.f == 0xF0 && t.cpu.sp == 0xC002) = true := by decide

/-- R202, R203: the carry-in alone makes the half carry. -/
theorem test_add_adc : ends (exec .add_A_B (start { cpu0 with a := 0x80, b := 0x80 }))
      (fun t => t.cpu.a == 0x00 && t.cpu.f == 0x90) = true ∧
    ends (exec .adc_A_B (start { cpu0 with a := 0x0F, b := 0x00, f := 0x10 }))
      (fun t => t.cpu.a == 0x10 && t.cpu.f == 0x20) = true ∧
    ends (exec .adc_A_A (start { cpu0 with a := 0x88, f := 0x10 }))
      (fun t => t.cpu.a == 0x11 && t.cpu.f == 0x30) = true := by decide
/-- R204, R205: `b + cin` can be 256. -/
theorem test_sub_sbc : ends (exec .sub_B (start { cpu0 with a := 0x3E, b := 0x40 }))
      (fun t => t.cpu.a == 0xFE && t.cpu.f == 0x50) = true ∧
    ends (exec .sbc_A_B (start { cpu0 with a := 0x00, b := 0xFF, f := 0x10 }))
      (fun t => t.cpu.a == 0x00 && t.cpu.f == 0xF0) = true ∧
    ends (exec .sbc_A_B (start { cpu0 with a := 0x10, b := 0x0F, f := 0x10 }))
      (fun t => t.cpu.a == 0x00 && t.cpu.f == 0xE0) = true := by decide
/-- R206 to R209. -/
theorem test_logic_cp : ends (exec (.and_n 0x3F) (start { cpu0 with a := 0x5A, f := 0x10 }))
      (fun t => t.cpu.a == 0x1A && t.cpu.f == 0x20 && t.cpu.pc == 0x0102) = true ∧
    ends (exec (.xor_n 0x0F) (start { cpu0 with a := 0xFF, f := 0xF0 })) (fun t => t.cpu.a == 0xF0 && t.cpu.f == 0x00) = true ∧
    ends (exec .or_A (start { cpu0 with a := 0x00, f := 0xF0 })) (fun t => t.cpu.a == 0x00 && t.cpu.f == 0x80) = true ∧
    ends (exec .cp_B (start { cpu0 with a := 0x3C, b := 0x40 })) (fun t => t.cpu.a == 0x3C && t.cpu.f == 0x50) = true := by
  decide
/-- R210 to R213. -/
theorem test_inc_dec : ends (exec .inc_B (start { cpu0 with b := 0xFF, f := 0x10 }))
      (fun t => t.cpu.b == 0x00 && t.cpu.f == 0xB0) = true ∧
    ends (exec .dec_B (start { cpu0 with b := 0x10, f := 0x00 })) (fun t => t.cpu.b == 0x0F && t.cpu.f == 0x60) = true ∧
    ends (exec .inc_mHL (startRam { cpu0 with h := 0xC0, l := 0 } [(0, 0xFF)]))
      (fun t => peek t 0xC000 == some 0x00 && t.cpu.f == 0xA0 && t.cpu.cycles == 12) = true ∧
    ends (exec .dec_mHL (start { cpu0 with h := 0xC0, l := 0, f := 0x10 }))
      (fun t => peek t 0xC000 == some 0xFF && t.cpu.f == 0x70) = true := by decide
/-- R326: `INC (HL)` on `LY` reads it, then clears it. -/
theorem test_inc_mHL_LY :
    let s := start { cpu0 with h := 0xFF, l := 0x44 }
    ends (exec .inc_mHL { s with ppu := { s.ppu with ly := 0x0F } }) (fun t => t.ppu.ly == 0 && t.cpu.f == 0x20) = true := by
  decide
/-- R214: rows of the DAA table. -/
theorem test_daa : ends (exec .daa (start { cpu0 with a := 0x9A, f := 0x00 })) (fun t => t.cpu.a == 0x00 && t.cpu.f == 0x90) = true ∧
    ends (exec .daa (start { cpu0 with a := 0x4B, f := 0x60 })) (fun t => t.cpu.a == 0x45 && t.cpu.f == 0x40) = true ∧
    ends (exec .daa (start { cpu0 with a := 0x00, f := 0x70 })) (fun t => t.cpu.a == 0x9A && t.cpu.f == 0x50) = true ∧
    ends (exec .daa (start { cpu0 with a := 0x0F, f := 0x20 })) (fun t => t.cpu.a == 0x15 && t.cpu.f == 0x00) = true := by decide
/-- R215 to R217. -/
theorem test_cpl_scf_ccf : ends (exec .cpl (start { cpu0 with a := 0x35, f := 0x90 })) (fun t => t.cpu.a == 0xCA && t.cpu.f == 0xF0) = true ∧
    ends (exec .scf (start { cpu0 with f := 0xE0 })) (fun t => t.cpu.f == 0x90) = true ∧
    ends (exec .ccf (start { cpu0 with f := 0xF0 })) (fun t => t.cpu.f == 0x80) = true := by decide

/-- R240 to R243. -/
theorem test_alu16 : ends (exec .add_HL_SP (start { cpu0 with h := 0, l := 1, sp := 0xFFFF, f := 0x40 }))
      (fun t => t.cpu.h == 0 && t.cpu.l == 0 && t.cpu.f == 0x30) = true ∧
    ends (exec .add_HL_BC (start { cpu0 with h := 0x8A, l := 0x23, b := 0x06, c := 0x05, f := 0x80 }))
      (fun t => t.cpu.h == 0x90 && t.cpu.l == 0x28 && t.cpu.f == 0xA0) = true ∧
    ends (exec .inc_BC (start { cpu0 with b := 0xFF, c := 0xFF, f := 0xF0 }))
      (fun t => t.cpu.b == 0 && t.cpu.c == 0 && t.cpu.f == 0xF0) = true ∧
    ends (exec .dec_SP (start { cpu0 with sp := 0 })) (fun t => t.cpu.sp == 0xFFFF) = true ∧
    ends (exec (.add_SP_e 0x80) (start { cpu0 with sp := 0x0100 })) (fun t => t.cpu.sp == 0x0080 && t.cpu.f == 0x00) = true := by
  decide

/-- R250 to R253: `Z` is cleared. -/
theorem test_rotate_A : ends (exec .rlca (start { cpu0 with a := 0x00, f := 0xF0 })) (fun t => t.cpu.a == 0x00 && t.cpu.f == 0x00) = true ∧
    ends (exec .rrca (start { cpu0 with a := 0x3B })) (fun t => t.cpu.a == 0x9D && t.cpu.f == 0x10) = true ∧
    ends (exec .rla (start { cpu0 with a := 0x95, f := 0x10 })) (fun t => t.cpu.a == 0x2B && t.cpu.f == 0x10) = true ∧
    ends (exec .rra (start { cpu0 with a := 0x81 })) (fun t => t.cpu.a == 0x40 && t.cpu.f == 0x10) = true := by decide
/-- R255 to R258. -/
theorem test_cb_rotates : ends (exec .rlc_mHL (startRam { cpu0 with h := 0xC0, l := 0 } [(0, 0x80)]))
      (fun t => peek t 0xC000 == some 0x01 && t.cpu.f == 0x10 && t.cpu.cycles == 16 && t.cpu.pc == 0x0102) = true ∧
    ends (exec .rrc_C (start { cpu0 with c := 0x01 })) (fun t => t.cpu.c == 0x80 && t.cpu.f == 0x10) = true ∧
    ends (exec .rl_D (start { cpu0 with d := 0x11, f := 0x10 })) (fun t => t.cpu.d == 0x23 && t.cpu.f == 0x00) = true ∧
    ends (exec .rr_E (start { cpu0 with e := 0x8A, f := 0x10 })) (fun t => t.cpu.e == 0xC5 && t.cpu.f == 0x00) = true := by decide
/-- R259 to R262. -/
theorem test_cb_shifts : ends (exec .sla_H (start { cpu0 with h := 0xFF })) (fun t => t.cpu.h == 0xFE && t.cpu.f == 0x10) = true ∧
    ends (exec .sra_L (start { cpu0 with l := 0x8A })) (fun t => t.cpu.l == 0xC5 && t.cpu.f == 0x00) = true ∧
    ends (exec .swap_A (start { cpu0 with a := 0xF1, f := 0xF0 })) (fun t => t.cpu.a == 0x1F && t.cpu.f == 0x00) = true ∧
    ends (exec .srl_A (start { cpu0 with a := 0x01 })) (fun t => t.cpu.a == 0x00 && t.cpu.f == 0x90) = true := by decide
/-- R263 to R265. -/
theorem test_cb_bits : ends (exec .bit_7_H (start { cpu0 with h := 0x7F })) (fun t => t.cpu.f == 0xA0 && t.cpu.cycles == 8) = true ∧
    ends (exec .bit_0_mHL (startRam { cpu0 with h := 0xC0, l := 0, f := 0x10 } [(0, 0xFE)]))
      (fun t => t.cpu.f == 0xB0 && peek t 0xC000 == some 0xFE && t.cpu.cycles == 12) = true ∧
    ends (exec .res_0_A (start { cpu0 with a := 0xFF, f := 0xF0 })) (fun t => t.cpu.a == 0xFE && t.cpu.f == 0xF0) = true ∧
    ends (exec .set_0_mHL (start { cpu0 with h := 0xC0, l := 0 })) (fun t => peek t 0xC000 == some 0x01 && t.cpu.cycles == 16) = true := by
  decide
/-- R306: the prefix row is its CB row. -/
theorem test_prefix_CB : ends (exec (.prefix_CB 0x37) (start { cpu0 with a := 0xF1 })) (fun t => t.cpu.a == 0x1F && t.cpu.pc == 0x0102) = true := by
  decide

/-- R281 to R285, at 0x0100. -/
theorem test_jumps : ends (exec (.jp_C_nn 0x2000) (start { cpu0 with f := 0x10 })) (fun t => t.cpu.pc == 0x2000 && t.cpu.cycles == 16) = true ∧
    ends (exec .jp_HL (start { cpu0 with h := 0xC0, l := 0 })) (fun t => t.cpu.pc == 0xC000 && t.cpu.cycles == 4) = true ∧
    ends (exec (.jr_e 0x80) (start cpu0)) (fun t => t.cpu.pc == 0x0082 && t.cpu.cycles == 12) = true ∧
    ends (exec (.jr_Z_e 0x10) (start cpu0)) (fun t => t.cpu.pc == 0x0102 && t.cpu.cycles == 8) = true := by decide
/-- R286, R287, R290. -/
theorem test_calls : ends (exec (.call_nn 0x1234) (start { cpu0 with sp := 0xD000 }))
      (fun t => t.cpu.pc == 0x1234 && peek t 0xCFFE == some 0x03 && peek t 0xCFFF == some 0x01 && t.cpu.cycles == 24) = true ∧
    ends (exec (.call_C_nn 0x3000) (start { cpu0 with sp := 0xD000 }))
      (fun t => t.cpu.pc == 0x0103 && t.cpu.sp == 0xD000 && t.cpu.cycles == 12) = true ∧
    ends (exec .rst_28 (start { cpu0 with sp := 0xD000 }))
      (fun t => t.cpu.pc == 0x0028 && peek t 0xCFFE == some 0x01 && t.cpu.cycles == 16) = true := by decide
/-- R288, R289, R291. -/
theorem test_returns : ends (exec .ret_Z (startRam { cpu0 with f := 0x80, sp := 0xC000 } [(0, 0x78), (1, 0x56)]))
      (fun t => t.cpu.pc == 0x5678 && t.cpu.sp == 0xC002 && t.cpu.cycles == 20) = true ∧
    ends (exec .reti (startRam { cpu0 with sp := 0xC000 } [(0, 0x78), (1, 0x56)]))
      (fun t => t.cpu.pc == 0x5678 && t.cpu.ime && t.cpu.cycles == 16) = true ∧
    ends (exec .ret_NC (start { cpu0 with f := 0x10, sp := 0xC000 }))
      (fun t => t.cpu.pc == 0x0101 && t.cpu.sp == 0xC000 && t.cpu.cycles == 8) = true := by decide
/-- R300 to R305. -/
theorem test_misc : ends (exec .halt (start cpu0)) (fun t => t.cpu.halted && t.cpu.pc == 0x0101) = true ∧
    ends (exec .ei (start cpu0)) (fun t => t.cpu.ime) = true ∧
    ends (exec .di (start { cpu0 with ime := true })) (fun t => !t.cpu.ime) = true ∧
    ends (exec .stop (start cpu0)) (fun t => t.fault == some (.unimplementedOpcode 0x10 0x0100) && t.cpu.pc == 0x0100) = true ∧
    ends (exec .illegal_D3 (start cpu0)) (fun t => t.fault == some (.unmappedOpcode 0xD3 0x0100)) = true := by decide

/-! ## The step, interrupts, the timer, the PPU, the bus (95, 2.8 to 2.13) -/

/-- S9: V-blank is serviced, STAT stays pending. -/
theorem test_interrupt_service :
    let s := { start { cpu0 with sp := 0xD000, ime := true } with ie := 0x01, ifReg := 0x03 }
    ends (cpuStep s) (fun t => t.cpu.pc == 0x0040 && t.ifReg == 0x02 && !t.cpu.ime && peek t 0xCFFE == some 0x00 &&
      peek t 0xCFFF == some 0x01 && t.cpu.cycles == 20) = true := by decide
/-- 2.8: the joypad vector; and `IE = 0xE0` enables nothing. -/
theorem test_interrupt_mask :
    ends (cpuStep { start { cpu0 with ime := true } with ie := 0x1F, ifReg := 0x10 }) (fun t => t.cpu.pc == 0x0060) = true ∧
    ends (cpuStep { start { cpu0 with ime := true } with ie := 0xE0, ifReg := 0x1F }) (fun t => t.cpu.pc == 0x0101) = true := by decide
/-- 2.7: `HALT` with an interrupt pending and `IME = 0` wakes and runs the next instruction. -/
theorem test_halt_wakes :
    ends (step { (start { cpu0 with halted := true, pc := 0x0101 }) with ie := 4, ifReg := 4, cart := .noController [(0x101, 0x04)] })
      (fun t => t.cpu.b == 1 && !t.cpu.halted && t.ifReg == 4 && t.cpu.pc == 0x0102) = true := by decide
/-- R488, R500: a request of the external unit is seen by the CPU step of the same round. -/
theorem test_ext_poll :
    ends (step { (start { cpu0 with ime := true, sp := 0xD000 }) with ie := 0x08, ext := .scripted [1] })
      (fun t => t.cpu.pc == 0x0058 && t.ifReg == 0) = true := by decide
/-- R505: a faulted machine has no step. -/
theorem test_faulted_stops :
    (match step { start cpu0 with fault := some (.unmappedOpcode 0xD3 0x0100) } with
      | .fault f => decide (f = .unmappedOpcode 0xD3 0x0100)
      | _ => false) = true := by decide
/-- S6: five increments of `TIMA` in 80 cycles, two of them overflows. -/
theorem test_timer_overflow :
    let s := timerAdvance 80 { start cpu0 with timer := { Timer.reset with tac := 0x05, tima := 0xFE, tma := 0xFE } }
    s.timer.tima = 0xFF ∧ s.timer.timaAcc = 0 ∧ s.timer.divAcc = 80 ∧ s.ifReg = 4 := by decide
set_option maxRecDepth 20000 in
/-- 2.9: the stopped counter keeps its accumulator; then 62 periods at once. -/
theorem test_timer_burst :
    let s := { start cpu0 with timer := { Timer.reset with tac := 0x01, timaAcc := 1000 } }
    (timerAdvance 4 s).timer.timaAcc = 1000 ∧
    (timerAdvance 4 { s with timer := { s.timer with tac := 0x05 } }).timer.tima = 0x3E := by decide
/-- 2.12: into mode 3 at 80 cycles, with row 0 rendered; here with the display off, so that no row is. -/
theorem test_ppu_transfer :
    wrote (ppuAdvance 80 { start cpu0 with ppu := { State.reset.ppu with lcdc := 0x11 } })
      (fun t => t.ppu.stat == 0x07 && t.ppu.cycles == 0) = true := by decide
/-- 2.12: V-blank entry from line 143. -/
theorem test_ppu_vblank :
    wrote (ppuAdvance 1 { start cpu0 with ppu := { State.reset.ppu with ly := 143, stat := 0x50, lyc := 144, cycles := 203 } })
      (fun t => t.ppu.ly == 144 && t.ppu.stat == 0x55 && t.ifReg == 0x03 && t.ppu.framesOut.length == 1) = true := by decide
/-- 2.12: the wrap from line 153. -/
theorem test_ppu_wrap :
    wrote (ppuAdvance 4 { start cpu0 with ppu := { State.reset.ppu with ly := 153, stat := 0x21, lyc := 0, cycles := 452 } })
      (fun t => t.ppu.ly == 0 && t.ppu.stat == 0x26 && t.ifReg == 0x02) = true := by decide
/-- 2.11: register accesses. -/
theorem test_ppu_registers :
    wrote (memWrite (start cpu0) 0xFF41 0xFF) (fun t => peek t 0xFF41 == some 0xFE && t.ifReg == 0) = true ∧
    wrote (memWrite (start cpu0) 0xFF0F 0xFF) (fun t => peek t 0xFF0F == some 0x1F) = true ∧
    wrote (memWrite startCgb 0xFF4F 0xFF) (fun t => peek t 0xFF4F == some 0xFF) = true := by decide
/-- 2.11: the palette port wraps at 63. -/
theorem test_palette_port :
    wrote (memWrite { startCgb with ppu := { startCgb.ppu with bcps := 0xBF } } 0xFF69 0x7C)
      (fun t => t.mem.bgPal.read 63 == 0x7C && t.ppu.bcps == 0x80) = true := by decide
set_option maxRecDepth 20000 in
/-- 2.11: OAM DMA from page 0xC1, through the echo, and from page 0xFF. -/
theorem test_oam_dma :
    let s := startRam cpu0 [(0x100, 0xFF), (0x19F, 0x60)]
    wrote (memWrite s 0xFF46 0xC1) (fun t => peek t 0xFE00 == some 0xFF && peek t 0xFE9F == some 0x60 && t.ppu.dma == 0xC1) = true ∧
    wrote (memWrite s 0xFF46 0xE1) (fun t => peek t 0xFE00 == some 0xFF) = true ∧
    raised (memWrite s 0xFF46 0xFF) (.unmappedAddress 0xFF03 false) = true := by decide
/-- 2.11: a general VRAM DMA of 32 bytes, and the armed one. -/
theorem test_vram_dma :
    let s := { startCgb with mem := { Mem.empty with wram := [(0x120, 0x11), (0x13F, 0x22)] },
                             ppu := { startCgb.ppu with hdma := { Hdma.reset with srcHi := 0xC1, srcLo := 0x23, dstHi := 0x88, dstLo := 0x45 } } }
    wrote (memWrite s 0xFF55 0x01) (fun t => peek t 0x8840 == some 0x11 && peek t 0x885F == some 0x22 && peek t 0xFF55 == some 0xFF) = true ∧
    wrote (memWrite s 0xFF55 0x81) (fun t => peek t 0x8840 == some 0x00 && peek t 0xFF55 == some 0x01) = true := by decide
/-- 2.10: the echo, the no-op range, the wrap of a 16-bit read. -/
theorem test_bus :
    wrote (memWrite (start cpu0) 0xFDFF 0x5A) (fun t => peek t 0xDDFF == some 0x5A) = true ∧
    peek (start cpu0) 0xFEA0 = some 0xFF ∧ peek (start cpu0) 0xA000 = some 0xFF ∧ peek (start cpu0) 0xFF00 = some 0xFF ∧
    raised (memRead (start cpu0) 0xFF4F) (.unmappedAddress 0xFF4F false) = true ∧
    (match memRead16 { start cpu0 with ie := 0x34 } 0xFFFF with
      | .ok w => decide (w = 0x0034)
      | .error _ => false) = true := by decide
/-- R422: row bytes 0x3C, 0x7E give 0, 2, 3, 3, 3, 3, 2, 0. -/
theorem test_tile_row :
    let s := { start cpu0 with mem := { Mem.empty with vram := [(0, 0x3C), (1, 0x7E)] } }
    (List.range 8).map (fun c => tileCi s 0 0 c 0) = [0, 2, 3, 3, 3, 3, 2, 0] := by decide
/-- R423: the offsets of 2.13. -/
theorem test_tile_offset :
    tileOffset 0x10 255 = 0x0FF0 ∧ tileOffset 0x00 0 = 0x1000 ∧ tileOffset 0x00 127 = 0x17F0 ∧ tileOffset 0x00 255 = 0x0FF0 := by decide
/-- R437: sprite 1 shows through the transparent columns of sprite 0 (the overlap of 2.13). -/
theorem test_sprite_overlap :
    let s := { start cpu0 with
      mem := { Mem.empty with vram := [(0x10, 0xF0), (0x20, 0xFF), (0x21, 0xFF)],
                              oam := [(0, 16), (1, 8), (2, 1), (4, 16), (5, 8), (6, 2), (7, 0x10)] },
      ppu := { State.reset.ppu with lcdc := 0x93, obp0 := 0xE4, obp1 := 0xE4, bgp := 0xE4 } }
    pixelAt s 3 0 = 0xFFAAAAAA ∧ pixelAt s 4 0 = 0xFF000000 ∧ pixelAt s 8 0 = 0xFFFFFFFF := by decide
/-- R448: the colours of 2.13. -/
theorem test_colours :
    rgb15ToPixel Launch.default 0x7FFF = 0xFFFFFFFF ∧ rgb15ToPixel Launch.default 0x03E0 = 0xFF00FF00 ∧
    rgb15ToPixel Launch.default 0x0010 = 0xFF840000 := by decide

/-! ## Witnesses: for every statement with hypotheses, states and operands that meet them, clause by clause -/

/-- `HL`, `BC`, `DE` and `SP` at the unmapped 0xFF03. -/
def badPtr : State := start { cpu0 with h := 0xFF, l := 0x03, b := 0xFF, c := 0x03, d := 0xFF, e := 0x03, sp := 0xFF03 }

/-- `HL`, `BC` and `SP` at 0xC000, with bytes there. -/
def ramPtr : State := startRam { cpu0 with h := 0xC0, l := 0, b := 0xC0, c := 0, d := 0xC0, e := 1, sp := 0xC000 } [(0, 0x5A), (1, 0xFF)]

/-- Bytes in the ROM at 0x0100. -/
def prog (bytes : Memory) : State := { start cpu0 with cart := .noController bytes }

theorem witness_DecodeOfEncode : (Instr.ld_A_n 0xFF).wellFormed = true ∧ (Instr.stop 0xFF).wellFormed = true := by decide

theorem witness_EncodeOfDecode :
    decode [0xCB, 0x7C, 0x00] = .ok (.bit_7_H, [0x00]) ∧ decode [0x10, 0x37] = .ok (.stop 0x37, []) := ⟨rfl, rfl⟩

/-- A CGB state on the last line of the frame, with a transfer of 128 chunks armed and bytes in memory. -/
def lateCgb : State := { startCgb with
  mem := { Mem.empty with wram := [(0, 1), (0x7FFF, 0xFF)], vram := [(0x3FFF, 2)] },
  ppu := { startCgb.ppu with ly := 153, stat := 0x01, cycles := 455, bcps := 0xBF,
                             hdma := { Hdma.reset with active := true, remaining := 128 } } }

theorem lateCgb_inv : Inv lateCgb :=
  by constructor <;> decide

theorem witness_StepKeepsInvariant : Inv lateCgb ∧ ∃ t, step lateCgb = .next t ∧ (t.ppu.ly == 0) = true :=
  ⟨lateCgb_inv, ends_next (by decide)⟩

theorem witness_StepRunsDecodedInstruction_runs :
    let s := prog [(0x100, 0x3E), (0x101, 0x2A)]
    s.fault = none ∧ interruptDue (pollExt s) = false ∧ s.cpu.halted = false ∧
    decode [0x3E, 0x2A] = .ok (.ld_A_n 0x2A, []) ∧
    ∀ (k : Nat) (b : Byte), ([0x3E, 0x2A] : List Byte)[k]? = some b →
      memRead (pollExt s) (s.cpu.pc + BitVec.ofNat 16 k) = .ok b := by
  refine ⟨rfl, by decide, rfl, rfl, fun k b h => ?_⟩
  match k with
  | 0 => cases h; exact peek_ok (by decide)
  | 1 => cases h; exact peek_ok (by decide)
  | k + 2 => simp at h

theorem witness_StepRunsDecodedInstruction_faults :
    (let s := start { cpu0 with pc := 0xFF7F }
     s.fault = none ∧ interruptDue (pollExt s) = false ∧ s.cpu.halted = false ∧
     memRead (pollExt s) s.cpu.pc = .error (.unmappedAddress 0xFF7F false)) ∧
    (let s := { start { cpu0 with pc := 0xFF07 } with timer := { Timer.reset with tac := 0x3E } }
     s.fault = none ∧ interruptDue (pollExt s) = false ∧ s.cpu.halted = false ∧
     memRead (pollExt s) s.cpu.pc = .ok 0x3E ∧ 1 < fetchLength 0x3E ∧
     memRead (pollExt s) (s.cpu.pc + 1) = .error (.unmappedAddress 0xFF08 false)) ∧
    (let s := { start { cpu0 with pc := 0xFF06 } with timer := { Timer.reset with tma := 0xC3, tac := 0x12 } }
     s.fault = none ∧ interruptDue (pollExt s) = false ∧ s.cpu.halted = false ∧
     memRead (pollExt s) s.cpu.pc = .ok 0xC3 ∧ memRead (pollExt s) (s.cpu.pc + 1) = .ok 0x12 ∧ 2 < fetchLength 0xC3 ∧
     memRead (pollExt s) (s.cpu.pc + 2) = .error (.unmappedAddress 0xFF08 false)) :=
  ⟨⟨rfl, by decide, rfl, raised_error (by decide)⟩,
   ⟨rfl, by decide, rfl, peek_ok (by decide), by decide, raised_error (by decide)⟩,
   ⟨rfl, by decide, rfl, peek_ok (by decide), peek_ok (by decide), by decide, raised_error (by decide)⟩⟩

/-- `STOP` at the last byte before an unmapped address: the byte it skips is not read. -/
theorem witness_StepRunsDecodedInstruction_stop :
    let s := { start { cpu0 with pc := 0xFF07 } with timer := { Timer.reset with tac := 0x10 } }
    s.fault = none ∧ interruptDue (pollExt s) = false ∧ s.cpu.halted = false ∧ memRead (pollExt s) s.cpu.pc = .ok 0x10 ∧
    memRead (pollExt s) (s.cpu.pc + 1) = .error (.unmappedAddress 0xFF08 false) :=
  ⟨rfl, by decide, rfl, peek_ok (by decide), raised_error (by decide)⟩

theorem witness_DriverRound :
    (start cpu0).ext = .scripted [] ∧
    (∃ t, cpuStep (pollExt (start cpu0)) = .next t ∧
      (t.fault == none && wrote (ppuAdvance t.cpu.cycles t) (fun u => u.ppu.cycles == 4)) = true) ∧
    (∃ t, cpuStep (pollExt (prog [(0x100, 0xD3)])) = .next t ∧ (t.fault == some (.unmappedOpcode 0xD3 0x0100)) = true) ∧
    ({ start cpu0 with fault := some (.unmappedOpcode 0xD3 0x0100) } : State).fault = some (.unmappedOpcode 0xD3 0x0100) :=
  ⟨rfl, ends_next (by decide), ends_next (by decide), rfl⟩

theorem witness_HaltedCpuIdlesAndWakes :
    (let s := start { cpu0 with halted := true }
     s.cpu.halted = true ∧ pending s = 0) ∧
    (let s := { start { cpu0 with halted := true } with ie := 0x10, ifReg := 0x10 }
     s.cpu.halted = true ∧ pending s ≠ 0 ∧ s.cpu.ime = false) := by decide

theorem witness_InterruptEntry :
    (let s := { start { cpu0 with sp := 0xD000, ime := true } with ie := 0x1F, ifReg := 0x1F }
     s.cpu.ime = true ∧ 0 < 5 ∧ (pending s).getLsbD 0 = true ∧ (∀ j, j < 0 → (pending s).getLsbD j = false) ∧
     canPush { s with ifReg := s.ifReg &&& ~~~((1 : BitVec 5) <<< 0) } s.cpu.pc = true) ∧
    (let s := { start { cpu0 with sp := 0xFF04, ime := true } with ie := 0xFF, ifReg := 0x10 }
     s.cpu.ime = true ∧ 4 < 5 ∧ (pending s).getLsbD 4 = true ∧ (∀ j, j < 4 → (pending s).getLsbD j = false) ∧
     canPush { s with ifReg := s.ifReg &&& ~~~((1 : BitVec 5) <<< 4) } s.cpu.pc = false) := by
  refine ⟨⟨rfl, by decide, by decide, fun j h => absurd h (Nat.not_lt_zero j), by decide⟩, by decide⟩

theorem witness_InterruptEntryThenReti :
    let s := { start { cpu0 with sp := 0xC002, ime := true } with ie := 0x04, ifReg := 0x14 }
    s.mem.wf s.launch.variant = true ∧ s.cpu.ime = true ∧ pending s ≠ 0 ∧ isRam s (s.cpu.sp - 1) = true ∧
    isRam s (s.cpu.sp - 2) = true ∧ ∃ t, cpuStep s = .next t ∧ (t.cpu.pc == 0x0050) = true :=
  ⟨by decide, rfl, by decide, by decide, by decide, ends_next (by decide)⟩

theorem witness_OnlyFourInstructionsWriteImeAndHalted :
    (∃ t, exec .ei (start cpu0) = .next t ∧ (t.fault == none && t.cpu.ime) = true) ∧
    (∃ t, exec .reti (start { cpu0 with sp := 0xC000 }) = .next t ∧ (t.fault == none && t.cpu.ime) = true) ∧
    (∃ t, exec .di (start { cpu0 with ime := true }) = .next t ∧ (t.fault == none && !t.cpu.ime) = true) ∧
    (∃ t, exec .halt (start cpu0) = .next t ∧ (t.fault == none && t.cpu.halted) = true) :=
  ⟨ends_next (by decide), ends_next (by decide), ends_next (by decide), ends_next (by decide)⟩

theorem witness_NoInstructionAdvancesPpuOrTimer :
    ∃ t, exec (.ldh_mn_A 0x44) { start cpu0 with ppu := { State.reset.ppu with ly := 7 } } = .next t ∧ (t.ppu.ly == 0) = true :=
  ends_next (by decide)

theorem witness_LaunchAndRomNeverChange :
    (prog [(0x100, 0x77)]).cart = .noController [(0x100, 0x77)] ∧
    ∃ t, step (prog [(0x100, 0x77)]) = .next t ∧ (t.fault == none) = true :=
  ⟨rfl, ends_next (by decide)⟩

theorem witness_FatalConditionsAreTheListed :
    (prog [(0x100, 0xFD)]).fault = none ∧
    (∃ t, step (prog [(0x100, 0xFD)]) = .next t ∧ (t.fault == some (.unmappedOpcode 0xFD 0x0100)) = true) ∧
    (∃ t, step (prog [(0x100, 0x10)]) = .next t ∧ (t.fault == some (.unimplementedOpcode 0x10 0x0100)) = true) ∧
    (∃ t, step (prog [(0x100, 0xE0), (0x101, 0x7F)]) = .next t ∧ (t.fault == some (.unmappedAddress 0xFF7F true)) = true) :=
  ⟨rfl, ends_next (by decide), ends_next (by decide), ends_next (by decide)⟩

theorem witness_CpuStepCostIsMultipleOfFour_service :
    let s := { start { cpu0 with sp := 0xD000, ime := true } with ie := 0x1F, ifReg := 0x10 }
    let slow := { s with launch := { Launch.default with intServiceCycles := 100 } }
    (s.fault = none ∧ interruptDue s = true ∧ s.launch.intServiceCycles = 20 ∧
      ∃ t, cpuStep s = .next t ∧ (t.fault == none && t.cpu.cycles == 20) = true) ∧
    (slow.fault = none ∧ interruptDue slow = true ∧
      ∃ t, cpuStep slow = .next t ∧ (t.fault == none && t.cpu.cycles == 100) = true) :=
  ⟨⟨rfl, by decide, rfl, ends_next (by decide)⟩, rfl, by decide, ends_next (by decide)⟩

theorem witness_CpuStepCostIsMultipleOfFour :
    (interruptDue (start cpu0) = false ∧
      ∃ t, cpuStep (start cpu0) = .next t ∧ (t.fault == none && t.cpu.cycles == 4) = true) ∧
    (∃ t, cpuStep (prog [(0x100, 0xCD)]) = .next t ∧ (t.fault == none && t.cpu.cycles == 24) = true) :=
  ⟨⟨by decide, ends_next (by decide)⟩, ends_next (by decide)⟩

theorem witness_PcAdvancesByLength :
    (∃ t, exec (.jp_Z_nn 0x2000) (start cpu0) = .next t ∧
      (t.fault == none && !condHolds (start cpu0) .z && t.cpu.pc == 0x0103) = true) ∧
    (∃ t, exec .nop (start { cpu0 with pc := 0xFFFF }) = .next t ∧ (t.fault == none && t.cpu.pc == 0) = true) :=
  ⟨ends_next (by decide), ends_next (by decide)⟩

theorem witness_AbandonedInstructionChangesOnlyFault : (start cpu0).fault = none ∧ badPtr.fault = none := ⟨rfl, rfl⟩

theorem witness_LoadRegister :
    Instr.ld_A_A.form = .ldRR .a .a ∧ (Instr.ld_H_n 0xFF).form = .ldRN .h 0xFF ∧ Instr.ld_L_mHL.form = .ldRM .l ∧
    memRead ramPtr (getHL ramPtr) = .ok 0x5A ∧ memRead badPtr (getHL badPtr) = .error (.unmappedAddress 0xFF03 false) :=
  ⟨rfl, rfl, rfl, peek_ok (by decide), raised_error (by decide)⟩

theorem witness_StoreToHL :
    (Instr.ld_mHL_H.form = .ldMR .h ∧ (0xC0 : Byte) = getR8 ramPtr .h ∧ canWrite ramPtr (getHL ramPtr) 0xC0 = true) ∧
    ((Instr.ld_mHL_n 0x00).form = .ldMN 0x00 ∧ canWrite ramPtr (getHL ramPtr) 0x00 = true) ∧
    ((Instr.ld_mHL_n 0xFF).form = .ldMN 0xFF ∧ memWrite badPtr (getHL badPtr) 0xFF = .error (.unmappedAddress 0xFF03 true)) :=
  ⟨⟨rfl, by decide, by decide⟩, ⟨rfl, by decide⟩, ⟨rfl, raised_error (by decide)⟩⟩

theorem witness_LoadAccumulator :
    (Instr.ld_A_mBC.form = .ldA .bc ∧ memRead ramPtr (getBC ramPtr) = .ok 0x5A) ∧
    (Instr.ld_A_mDE.form = .ldA .de ∧ memRead ramPtr (getDE ramPtr) = .ok 0xFF) ∧
    ((Instr.ld_A_mnn 0xFFFF).form = .ldA (.abs 0xFFFF) ∧ memRead ramPtr 0xFFFF = .ok 0x00) ∧
    ((Instr.ldh_A_mn 0xFF).form = .ldA (.high 0xFF) ∧ memRead ramPtr (0xFF00 + zext16 0xFF) = .ok 0x00) ∧
    (Instr.ld_A_mC.form = .ldA .highC ∧ memRead ramPtr (0xFF00 + zext16 ramPtr.cpu.c) = .ok 0xFF) ∧
    (let s := start { cpu0 with h := 0xFF, l := 0xFF }
     Instr.ld_A_mHLinc.form = .ldA .hlInc ∧ memRead s (getHL s) = .ok 0x00) ∧
    (let s := start { cpu0 with h := 0x00, l := 0x00 }
     Instr.ld_A_mHLdec.form = .ldA .hlDec ∧ memRead s (getHL s) = .ok 0x00) ∧
    (Instr.ld_A_mC.form = .ldA .highC ∧ memRead badPtr (modeAddr badPtr .highC) = .error (.unmappedAddress 0xFF03 false)) :=
  by and_intros <;> first | exact peek_ok (by decide) | exact raised_error (by decide) | rfl

theorem witness_StoreAccumulator :
    (Instr.ld_mBC_A.form = .stA .bc ∧ canWrite ramPtr (getBC ramPtr) ramPtr.cpu.a = true) ∧
    (Instr.ld_mDE_A.form = .stA .de ∧ canWrite ramPtr (getDE ramPtr) ramPtr.cpu.a = true) ∧
    ((Instr.ld_mnn_A 0xFFFF).form = .stA (.abs 0xFFFF) ∧ canWrite ramPtr 0xFFFF ramPtr.cpu.a = true) ∧
    ((Instr.ldh_mn_A 0x00).form = .stA (.high 0x00) ∧ canWrite ramPtr (0xFF00 + zext16 0x00) ramPtr.cpu.a = true) ∧
    (Instr.ld_mC_A.form = .stA .highC ∧ canWrite ramPtr (0xFF00 + zext16 ramPtr.cpu.c) ramPtr.cpu.a = true) ∧
    (Instr.ld_mHLinc_A.form = .stA .hlInc ∧ canWrite ramPtr (getHL ramPtr) ramPtr.cpu.a = true) ∧
    (Instr.ld_mHLdec_A.form = .stA .hlDec ∧ canWrite ramPtr (getHL ramPtr) ramPtr.cpu.a = true) ∧
    (Instr.ld_mC_A.form = .stA .highC ∧
      memWrite badPtr (modeAddr badPtr .highC) badPtr.cpu.a = .error (.unmappedAddress 0xFF03 true)) :=
  by and_intros <;> decide

theorem witness_LoadPairs :
    (Instr.ld_BC_nn 0x1234).form = .ldRRNN .bc 0x1234 ∧ (Instr.ld_DE_nn 0).form = .ldRRNN .de 0 ∧
    (Instr.ld_HL_nn 0xFFFF).form = .ldRRNN .hl 0xFFFF ∧ (Instr.ld_SP_nn 0xFFFE).form = .ldRRNN .sp 0xFFFE ∧
    Instr.ld_SP_HL.form = .ldSPHL ∧ (Instr.ld_HL_SPe 0x80).form = .ldHLSP 0x80 := by decide

theorem witness_StoreStackPointer :
    ((Instr.ld_mnn_SP 0xFFFF).form = .stSP 0xFFFF ∧ canWrite16 ramPtr 0xFFFF ramPtr.cpu.sp = true) ∧
    ((Instr.ld_mnn_SP 0xFF03).form = .stSP 0xFF03 ∧
      memWrite ramPtr 0xFF03 (lo ramPtr.cpu.sp) = .error (.unmappedAddress 0xFF03 true)) ∧
    ((Instr.ld_mnn_SP 0xFF02).form = .stSP 0xFF02 ∧ memWrite ramPtr 0xFF02 (lo ramPtr.cpu.sp) = .ok ramPtr ∧
      memWrite ramPtr (0xFF02 + 1) (hi ramPtr.cpu.sp) = .error (.unmappedAddress 0xFF03 true)) :=
  ⟨⟨rfl, by decide⟩, ⟨rfl, raised_error (by decide)⟩, ⟨rfl, rfl, raised_error (by decide)⟩⟩

theorem witness_PushWritesPair :
    (Instr.push_BC.form = .push .bc ∧ canPush ramPtr (getBC ramPtr) = true) ∧
    (Instr.push_DE.form = .push .de ∧ canPush ramPtr (getDE ramPtr) = true) ∧
    (Instr.push_HL.form = .push .hl ∧ canPush (start { cpu0 with sp := 1 }) (getHL (start { cpu0 with sp := 1 })) = true) ∧
    (Instr.push_AF.form = .push .af ∧ canPush ramPtr (getAF ramPtr) = true) ∧
    (Instr.push_AF.form = .push .af ∧ canPush (start { cpu0 with sp := 0xFF04 }) (getAF (start { cpu0 with sp := 0xFF04 })) = false) := by
  decide

theorem witness_PopReadsPair :
    Instr.pop_BC.form = .pop .bc ∧ Instr.pop_DE.form = .pop .de ∧ Instr.pop_HL.form = .pop .hl ∧ Instr.pop_AF.form = .pop .af ∧
    memRead ramPtr ramPtr.cpu.sp = .ok 0x5A ∧ memRead ramPtr (ramPtr.cpu.sp + 1) = .ok 0xFF ∧
    memRead badPtr badPtr.cpu.sp = .error (.unmappedAddress 0xFF03 false) ∧
    (let s := start { cpu0 with sp := 0xFF02 }
     memRead s s.cpu.sp = .ok 0xFF ∧ memRead s (s.cpu.sp + 1) = .error (.unmappedAddress 0xFF03 false)) :=
  ⟨rfl, rfl, rfl, rfl, peek_ok (by decide), peek_ok (by decide), raised_error (by decide), peek_ok (by decide), raised_error (by decide)⟩

theorem witness_PopUndoesPush :
    let s := start { cpu0 with sp := 0xC002 }
    Instr.push_HL.form = .push .hl ∧ Instr.pop_AF.form = .pop .af ∧ s.mem.wf s.launch.variant = true ∧
    isRam s (s.cpu.sp - 1) = true ∧ isRam s (s.cpu.sp - 2) = true := by decide

/-- The three operand forms of R201, for an operation. -/
theorem aluOperand_forms :
    AluOperand .adc_A_A ramPtr .adc 0x01 1 4 ∧ AluOperand .sbc_A_mHL ramPtr .sbc 0x5A 1 8 ∧
    AluOperand (.and_n 0xFF) ramPtr .and 0xFF 2 8 :=
  ⟨.inl ⟨.a, rfl, by decide, rfl, rfl⟩, .inr (.inl ⟨rfl, peek_ok (by decide), rfl, rfl⟩), .inr (.inr ⟨rfl, rfl, rfl⟩)⟩

theorem witness_AddAndAdc :
    (AluOp.add = .add ∨ AluOp.add = .adc) ∧ AluOperand .add_A_B ramPtr .add 0xC0 1 4 ∧ AluOperand .adc_A_mHL ramPtr .adc 0x5A 1 8 ∧
    AluOperand (.adc_A_n 0xFF) ramPtr .adc 0xFF 2 8 ∧
    (Instr.add_A_mHL.form = .aluM .add ∧ memRead badPtr (getHL badPtr) = .error (.unmappedAddress 0xFF03 false)) :=
  ⟨.inl rfl, .inl ⟨.b, rfl, by decide, rfl, rfl⟩, .inr (.inl ⟨rfl, peek_ok (by decide), rfl, rfl⟩), .inr (.inr ⟨rfl, rfl, rfl⟩),
   rfl, raised_error (by decide)⟩

theorem witness_SubSbcAndCp :
    (AluOp.cp = .sub ∨ AluOp.cp = .sbc ∨ AluOp.cp = .cp) ∧ AluOperand .sub_B ramPtr .sub 0xC0 1 4 ∧
    AluOperand .sbc_A_mHL ramPtr .sbc 0x5A 1 8 ∧ AluOperand (.cp_n 0xFF) ramPtr .cp 0xFF 2 8 ∧
    (Instr.cp_mHL.form = .aluM .cp ∧ memRead badPtr (getHL badPtr) = .error (.unmappedAddress 0xFF03 false)) :=
  ⟨.inr (.inr rfl), .inl ⟨.b, rfl, by decide, rfl, rfl⟩, .inr (.inl ⟨rfl, peek_ok (by decide), rfl, rfl⟩), .inr (.inr ⟨rfl, rfl, rfl⟩),
   rfl, raised_error (by decide)⟩

theorem witness_LogicOperations :
    (AluOp.or = .and ∨ AluOp.or = .xor ∨ AluOp.or = .or) ∧ AluOperand .or_B ramPtr .or 0xC0 1 4 ∧
    AluOperand .xor_mHL ramPtr .xor 0x5A 1 8 ∧ AluOperand (.and_n 0x00) ramPtr .and 0x00 2 8 ∧
    (Instr.xor_mHL.form = .aluM .xor ∧ memRead badPtr (getHL badPtr) = .error (.unmappedAddress 0xFF03 false)) :=
  ⟨.inr (.inr rfl), .inl ⟨.b, rfl, by decide, rfl, rfl⟩, .inr (.inl ⟨rfl, peek_ok (by decide), rfl, rfl⟩), .inr (.inr ⟨rfl, rfl, rfl⟩),
   rfl, raised_error (by decide)⟩

theorem witness_IncrementAndDecrement :
    Instr.inc_H.form = .incR .h ∧ Instr.dec_L.form = .decR .l ∧ Instr.inc_mHL.form = .incM ∧ Instr.dec_mHL.form = .decM ∧
    memRead ramPtr (getHL ramPtr) = .ok 0x5A ∧ canWrite ramPtr (getHL ramPtr) 0x5B = true ∧
    memRead badPtr (getHL badPtr) = .error (.unmappedAddress 0xFF03 false) ∧
    (let s := { startCgb with cpu := { cpu0 with h := 0xFF, l := 0x55 },
                              ppu := { startCgb.ppu with hdma := { Hdma.reset with srcHi := 0xFF, srcLo := 0x70, remaining := 1 } } }
     memRead s (getHL s) = .ok 0x80 ∧ (∃ f, memWrite s (getHL s) 0x7F = .error f)) :=
  ⟨rfl, rfl, rfl, rfl, peek_ok (by decide), by decide, raised_error (by decide), peek_ok (by decide),
   ⟨.unmappedAddress 0xFF71 false, raised_error (by decide)⟩⟩

theorem witness_SixteenBitArithmetic :
    Instr.add_HL_BC.form = .addHL .bc ∧ Instr.add_HL_DE.form = .addHL .de ∧ Instr.add_HL_HL.form = .addHL .hl ∧
    Instr.add_HL_SP.form = .addHL .sp ∧ Instr.inc_BC.form = .incRR .bc ∧ Instr.dec_DE.form = .decRR .de ∧
    Instr.inc_HL.form = .incRR .hl ∧ Instr.dec_SP.form = .decRR .sp ∧ (Instr.add_SP_e 0x80).form = .addSP 0x80 := by decide

theorem witness_DecimalAdjust_ComplementAndCarryFlag :
    Instr.daa.form = .daa ∧ Instr.cpl.form = .cpl ∧ Instr.scf.form = .scf ∧ Instr.ccf.form = .ccf := by decide

theorem witness_RotateAccumulator :
    Instr.rlca.form = .rotA .rlca ∧ Instr.rrca.form = .rotA .rrca ∧ Instr.rla.form = .rotA .rla ∧ Instr.rra.form = .rotA .rra := by
  decide

theorem witness_RotateShiftSwap :
    Instr.swap_A.form = .rotR .swap .a ∧ Instr.rl_mHL.form = .rotM .rl ∧
    memRead ramPtr (getHL ramPtr) = .ok 0x5A ∧ canWrite ramPtr (getHL ramPtr) (BitVec.ofNat 8 (rotNat .rl 0x5A 0).1) = true ∧
    memRead badPtr (getHL badPtr) = .error (.unmappedAddress 0xFF03 false) ∧
    (let s := { startCgb with cpu := { cpu0 with h := 0xFF, l := 0x55 },
                              ppu := { startCgb.ppu with hdma := { Hdma.reset with srcHi := 0xFF, srcLo := 0x70, remaining := 1 } } }
     memRead s (getHL s) = .ok 0x80 ∧ (∃ f, memWrite s (getHL s) (BitVec.ofNat 8 (rotNat .rl 0x80 0).1) = .error f)) :=
  ⟨rfl, rfl, peek_ok (by decide), by decide, raised_error (by decide), peek_ok (by decide),
   ⟨.unmappedAddress 0xFF71 false, raised_error (by decide)⟩⟩

theorem witness_BitTest :
    Instr.bit_7_H.form = .bitR 7 .h ∧ Instr.bit_0_mHL.form = .bitM 0 ∧ memRead ramPtr (getHL ramPtr) = .ok 0x5A ∧
    memRead badPtr (getHL badPtr) = .error (.unmappedAddress 0xFF03 false) :=
  ⟨rfl, rfl, peek_ok (by decide), raised_error (by decide)⟩

theorem witness_ResetAndSetBit :
    Instr.res_7_A.form = .resR 7 .a ∧ Instr.set_0_B.form = .setR 0 .b ∧ Instr.res_1_mHL.form = .resM 1 ∧ Instr.set_7_mHL.form = .setM 7 ∧
    (∀ k, k < 8 → (0xC1 : Byte).getLsbD k = if k = 0 then true else (getR8 ramPtr .b).getLsbD k) ∧
    memRead ramPtr (getHL ramPtr) = .ok 0x5A ∧
    (∀ k, k < 8 → (0x58 : Byte).getLsbD k = if k = 1 then false else (0x5A : Byte).getLsbD k) ∧
    canWrite ramPtr (getHL ramPtr) 0x58 = true ∧
    memRead badPtr (getHL badPtr) = .error (.unmappedAddress 0xFF03 false) :=
  ⟨rfl, rfl, rfl, rfl, by decide, peek_ok (by decide), by decide, by decide, raised_error (by decide)⟩

theorem witness_ResetAndSetBit_writeFaults :
    let s := { startCgb with cpu := { cpu0 with h := 0xFF, l := 0x55 },
                             ppu := { startCgb.ppu with hdma := { Hdma.reset with srcHi := 0xFF, srcLo := 0x70, remaining := 1 } } }
    memRead s (getHL s) = .ok 0x80 ∧ (∀ k, k < 8 → (0x00 : Byte).getLsbD k = if k = 7 then false else (0x80 : Byte).getLsbD k) ∧
    memWrite s (getHL s) 0x00 = .error (.unmappedAddress 0xFF71 false) :=
  ⟨peek_ok (by decide), by decide, raised_error (by decide)⟩

theorem witness_Jumps :
    (Instr.jp_nn 0xFFFF).form = .jp 0xFFFF ∧ Instr.jp_HL.form = .jpHL ∧ (Instr.jr_e 0x80).form = .jr 0x80 ∧
    (Instr.jp_NZ_nn 0).form = .jpCC .nz 0 ∧ (Instr.jr_C_e 0xFF).form = .jrCC .c 0xFF ∧
    (true = !(start cpu0).cpu.f.getLsbD 7) ∧ (false = (start cpu0).cpu.f.getLsbD 4) := by decide

theorem witness_CallsPushReturnAddress :
    ((Instr.call_nn 0x1234).form = .call 0x1234 ∧ canPush ramPtr (ramPtr.cpu.pc + 3) = true) ∧
    ((Instr.call_NZ_nn 0x1234).form = .callCC .nz 0x1234 ∧ condHolds ramPtr .nz = true) ∧
    (Instr.rst_38.form = .rst 0x38 ∧ (0x0038 : Word) = zext16 0x38 ∧ canPush badPtr (badPtr.cpu.pc + 1) = true) ∧
    (let s := start { cpu0 with sp := 0xFF04 }
     Instr.rst_00.form = .rst 0x00 ∧ canPush s (s.cpu.pc + 1) = false) ∧
    ((Instr.call_C_nn 0).form = .callCC .c 0 ∧ condHolds ramPtr .c = false) := by decide

theorem witness_ReturnsPopPc :
    Instr.ret.form = .ret ∧ Instr.ret_NZ.form = .retCC .nz ∧ condHolds ramPtr .nz = true ∧ Instr.reti.form = .reti ∧
    memRead ramPtr ramPtr.cpu.sp = .ok 0x5A ∧ memRead ramPtr (ramPtr.cpu.sp + 1) = .ok 0xFF ∧
    Instr.ret_Z.form = .retCC .z ∧ condHolds ramPtr .z = false ∧ canPop badPtr = false :=
  ⟨rfl, rfl, by decide, rfl, peek_ok (by decide), peek_ok (by decide), rfl, by decide, by decide⟩

theorem witness_SystemInstructions_IllegalOpcodesRaise :
    Instr.nop.form = .nop ∧ Instr.di.form = .di ∧ Instr.ei.form = .ei ∧ Instr.halt.form = .halt ∧
    (Instr.stop 0x37).form = .stop 0x37 ∧
    Instr.illegal_D3.form = .illegal 0xD3 ∧ Instr.illegal_FD.form = .illegal 0xFD := by decide

theorem witness_UnmappedAddressesAndCompletion :
    isUnmapped (start cpu0) 0xFF03 = true ∧ (start cpu0).launch.unmappedPolicy = .fatal ∧
    (let s := { start cpu0 with launch := { Launch.default with unmappedPolicy := .sentinel } }
     isUnmapped s 0xFF7F = true ∧ s.launch.unmappedPolicy = .sentinel) := by decide

/-- The boundary addresses of the regions of AddressMapRegions. -/
theorem witness_AddressMapRegions :
    (start cpu0).cart = .noController [] ∧ (start cpu0).ext = .scripted [] ∧ (0x7FFF : Word).toNat < 0x8000 ∧
    (0x8000 : Word).toNat = 0x8000 ∧ (0x9FFF : Word).toNat < 0xA000 ∧ (0xA000 : Word).toNat = 0xA000 ∧ (0xBFFF : Word).toNat < 0xC000 ∧
    (0xC000 : Word).toNat = 0xC000 ∧ (0xCFFF : Word).toNat < 0xD000 ∧ (0xD000 : Word).toNat = 0xD000 ∧ (0xDFFF : Word).toNat < 0xE000 ∧
    (0xE000 : Word).toNat = 0xE000 ∧ (0xFDFF : Word).toNat < 0xFE00 ∧ (0xFE00 : Word).toNat = 0xFE00 ∧ (0xFE9F : Word).toNat < 0xFEA0 ∧
    (0xFEA0 : Word).toNat = 0xFEA0 ∧ (0xFEFF : Word).toNat < 0xFF00 ∧ (0xFF00 : Word).toNat = 0xFF00 ∧ (0xFF02 : Word).toNat < 0xFF03 ∧
    (0xFF10 : Word).toNat = 0xFF10 ∧ (0xFF3F : Word).toNat < 0xFF40 ∧ (0xFF80 : Word).toNat = 0xFF80 ∧ (0xFFFE : Word).toNat < 0xFFFF ∧
    (0xFFFF : Word).toNat = 0xFFFF := by decide

theorem witness_RamReadsLatestWrite :
    let s := start cpu0
    s.mem.wf s.launch.variant = true ∧ isRam s 0xFDFF = true ∧ isRam s (0xC000 + 1) = true ∧
    (∃ t, memWrite s 0xFDFF 0x5A = .ok t ∧ (peek t 0xDDFF == some 0x5A) = true) ∧
    isRam s 0xE001 = true ∧ locate s 0xC001 = locate s 0xE001 ∧ locate s 0xC000 ≠ locate s 0xE001 ∧
    (∃ t, memWrite16 s 0xC000 0xABCD = .ok t ∧ (peek t 0xC001 == some 0xAB) = true) :=
  ⟨by decide, by decide, by decide, wrote_ok (by decide), by decide,
   by decide +kernel, by decide +kernel,
   wrote_ok (by decide)⟩

theorem witness_ColorRegisters :
    startCgb.launch.variant = .cgb ∧ 128 ≤ (0x80 : Byte).toNat ∧ (0x7F : Byte).toNat < 128 ∧ lateCgb.launch.variant = .cgb ∧
    lateCgb.ppu.hdma.active = true ∧ lateCgb.ppu.hdma.remaining ≤ 128 ∧ 0 < lateCgb.ppu.hdma.remaining ∧
    startCgb.ppu.hdma.active = false ∧ startCgb.ppu.hdma.remaining = 0 := by decide

theorem witness_OamDmaCopiesPage :
    (start cpu0).mem.wf (start cpu0).launch.variant = true ∧ (0xFE : Byte) ≠ 0 ∧ (0xFE : Byte) ≠ 0xFF ∧
    (start cpu0).launch.unmappedPolicy = .fatal ∧
    ({ start cpu0 with launch := { Launch.default with unmappedPolicy := .sentinel } } : State).launch.unmappedPolicy = .sentinel := by
  decide

theorem witness_GeneralVramDmaCopiesBlock :
    let s := { startCgb with ppu := { startCgb.ppu with vbk := 1, hdma := { Hdma.reset with srcHi := 0xC1, srcLo := 0x23, dstHi := 0x9F, dstLo := 0xF5 } } }
    s.launch.variant = .cgb ∧ s.mem.wf .cgb = true ∧ (0x01 : Byte).toNat < 128 ∧ s.ppu.hdma.active = false ∧
    ∀ k, k < 16 * ((0x01 : Byte).toNat + 1) →
      canRead s ((pair s.ppu.hdma.srcHi s.ppu.hdma.srcLo &&& 0xFFF0) + BitVec.ofNat 16 k) = true ∧
      (((pair s.ppu.hdma.srcHi s.ppu.hdma.srcLo &&& 0xFFF0) + BitVec.ofNat 16 k).toNat < 0x8000 ∨
        0xA000 ≤ ((pair s.ppu.hdma.srcHi s.ppu.hdma.srcLo &&& 0xFFF0) + BitVec.ofNat 16 k).toNat) := by decide

theorem witness_InstructionMemoryFrame :
    (∃ t, exec .add_A_mHL ramPtr = .next t ∧ (storeAddr ramPtr Instr.add_A_mHL.form == none &&
      storeAddr2 ramPtr Instr.add_A_mHL.form == none && t.fault == none) = true) ∧
    (∃ t, exec .inc_mHL ramPtr = .next t ∧ (storeAddr ramPtr Instr.inc_mHL.form == some 0xC000 && isLocal ramPtr 0xC000 &&
      decide (locate ramPtr 0xC001 ≠ locate ramPtr 0xC000) && t.fault == none) = true) ∧
    (∃ t, exec .push_AF ramPtr = .next t ∧ (storeAddr2 ramPtr Instr.push_AF.form == some 0xBFFE && isLocal ramPtr 0xBFFE &&
      isLocal ramPtr (0xBFFE + 1) && decide (locate ramPtr 0xC000 ≠ locate ramPtr 0xBFFE) &&
      decide (locate ramPtr 0xC000 ≠ locate ramPtr (0xBFFE + 1)) && t.fault == none) = true) :=
  ⟨ends_next (by decide), ends_next (by decide), ends_next (by decide)⟩

/-- A state in a given mode, line and cycle. -/
def ppuAt (s : State) (mode ly : Byte) (cycles : Nat) : State :=
  { s with ppu := { s.ppu with stat := mode, ly := ly, cycles := cycles } }

/-- The boundary counts of every clause of PpuTransitions. -/
theorem witness_PpuTransitions :
    (let s := ppuAt (start cpu0) 2 0 75
     s.ppu.cycles + 4 < modeLength (ppuMode s) ∧ ppuMode s = 2 ∧ 80 ≤ s.ppu.cycles + 5 ∧ s.ppu.cycles + 176 < 80 + 172) ∧
    (let s := ppuAt (start cpu0) 3 143 171
     ppuMode s = 3 ∧ 172 ≤ s.ppu.cycles + 1 ∧ s.ppu.cycles + 204 < 172 + 204 ∧ s.launch.variant = .dmg) ∧
    (let s := ppuAt lateCgb 3 0 168
     ppuMode s = 3 ∧ 172 ≤ s.ppu.cycles + 4 ∧ s.launch.variant = .cgb ∧ s.ppu.hdma.active = true ∧
     canReadBlock s s.ppu.hdma.src 16 = true) ∧
    (let s := ppuAt { lateCgb with ppu := { lateCgb.ppu with hdma := { lateCgb.ppu.hdma with src := 0xFF00 } } } 3 0 168
     ppuMode s = 3 ∧ 172 ≤ s.ppu.cycles + 4 ∧ s.launch.variant = .cgb ∧ s.ppu.hdma.active = true ∧
     canReadBlock s s.ppu.hdma.src 16 = false) ∧
    (let s := ppuAt (start cpu0) 0 143 203
     ppuMode s = 0 ∧ 204 ≤ s.ppu.cycles + 1 ∧ s.ppu.cycles + 80 < 204 + 80 ∧ s.ppu.ly = 143) ∧
    (let s := ppuAt (start cpu0) 0 142 203
     ppuMode s = 0 ∧ 204 ≤ s.ppu.cycles + 1 ∧ s.ppu.ly ≠ 143) ∧
    (let s := ppuAt (start cpu0) 1 153 455
     ppuMode s = 1 ∧ 456 ≤ s.ppu.cycles + 1 ∧ s.ppu.cycles + 80 < 456 + 80 ∧ s.ppu.ly = 153) ∧
    (let s := ppuAt (start cpu0) 1 144 455
     ppuMode s = 1 ∧ 456 ≤ s.ppu.cycles + 1 ∧ s.ppu.ly ≠ 153) := by decide

/-- `T = 70220`: the last line of the first frame, four cycles before the wrap. -/
theorem witness_RasterFollowsClosedForm :
    let s := { ppuAt (start cpu0) 1 153 452 with ppu := { (ppuAt (start cpu0) 1 153 452).ppu with framesOut := [Frame.blank] } }
    RasterAt s 70220 ∧ s.fault = none ∧ (∃ u, cpuStep (pollExt s) = .next u ∧ (u.ppu.ly == s.ppu.ly) = true) ∧
    ∃ t, step s = .next t ∧ (t.fault == none && t.ppu.ly == 0) = true :=
  ⟨⟨by decide, ⟨by decide, rfl⟩, rfl⟩, rfl, ends_next (by decide), ends_next (by decide)⟩

theorem witness_FrameDeliveredAtVblankEntry :
    (∃ t, leaveMode (ppuMode (ppuAt (start cpu0) 0 143 0)) (ppuAt (start cpu0) 0 143 0) = .ok t ∧
      (t.ppu.framesOut.length == 1 && t.ppu.stat == 0x01) = true) ∧
    (let s := { ppuAt (start { cpu0 with sp := 0xD000, ime := true }) 0 143 200 with ie := 0x04, ifReg := 0x04 }
     Inv s ∧ (interruptDue (pollExt s) = true → s.launch.intServiceCycles < 80) ∧
     ∃ t, step s = .next t ∧ (t.ppu.framesOut.length == 1 && t.ppu.cycles == 16) = true) :=
  ⟨wrote_ok (by decide), by constructor <;> decide, fun _ => by decide, ends_next (by decide)⟩

theorem witness_RendererIsPureAndWritesOneRow :
    sameRenderInputs (start cpu0) { start cpu0 with ie := 1, ppu := { State.reset.ppu with ly := 5, stat := 0 } } :=
  ⟨rfl, rfl, rfl, rfl, rfl, rfl, rfl, rfl, rfl, rfl, rfl, rfl, rfl, rfl, rfl⟩

/-- Tile 1 with opaque columns 0 to 3, tile 2 opaque; sprites 0 and 1 at the top left corner. -/
def sprites (lcdc : Byte) : State := { start cpu0 with
  mem := { Mem.empty with vram := [(0x10, 0xF0), (0x20, 0xFF), (0x21, 0xFF)],
                          oam := [(0, 16), (1, 8), (2, 1), (4, 16), (5, 8), (6, 2), (7, 0x10)] },
  ppu := { State.reset.ppu with lcdc := lcdc } }

theorem witness_PixelComposition :
    (0 < 160 ∧ 159 < 160 ∧ 143 < 144) ∧ (sprites 0x92).ppu.lcdc.getLsbD 0 = false ∧
    ((sprites 0xB3).ppu.lcdc.getLsbD 0 = true ∧ (sprites 0xB3).ppu.lcdc.getLsbD 5 = true ∧ (sprites 0xB3).ppu.wy.toNat ≤ 0 ∧
      (sprites 0xB3).ppu.wx.toNat ≤ 0 + 7) ∧
    ((sprites 0x93).ppu.lcdc.getLsbD 0 = true ∧ ¬((sprites 0x93).ppu.lcdc.getLsbD 5 = true)) ∧
    (sprites 0x91).ppu.lcdc.getLsbD 1 = false ∧
    ((sprites 0x93).ppu.lcdc.getLsbD 1 = true ∧ spritePixel (sprites 0x93) 1 4 0 = some 3 ∧ spritePixel (sprites 0x93) 0 4 0 = some 0) := by
  decide

theorem witness_TilesAndColours :
    (7 < 8) ∧ (start cpu0).launch.variant = .dmg ∧ startCgb.launch.variant = .cgb ∧ (0 < 32 ∧ 31 < 32) ∧ Launch.default.rgbOverrides = [] := by
  decide

end Sys2Proof.Tests
end

section
/-! PROOFS. Family `10_state`: the reset state, what a step keeps, and which instructions move `PC`, `IME` and `halted`. -/

namespace Sys2Proof.Machine

/-! ### The invariant -/

/-- The bus's part of the invariant speaks of the launch, the cartridge, the PPU and the memory alone. -/
theorem BusInv.congr {s t : State} (h : BusInv s) (hlaunch : t.launch = s.launch) (hcart : t.cart = s.cart)
    (hppu : t.ppu = s.ppu) (hmem : t.mem = s.mem) : BusInv t where
  lyRange := hppu ▸ h.lyRange
  visible := by have hv := h.visible; unfold ppuMode at hv ⊢; rwa [hppu]
  chunks := hppu ▸ h.chunks
  armed := hppu ▸ h.armed
  bcpsBit := hppu ▸ h.bcpsBit
  ocpsBit := hppu ▸ h.ocpsBit
  cartWf := hcart ▸ h.cartWf
  memWf := by rw [hmem, hlaunch]; exact h.memWf

/-- The invariant is the bus's part and what the CPU (R22), the PPU's count (R46) and the divider (R37) keep. -/
theorem inv_iff (s : State) : Inv s ↔ BusInv s ∧ s.cpu.f &&& 0x0F = 0 ∧
    s.ppu.cycles < modeLength (ppuMode s) ∧ s.timer.divAcc < divPeriod s :=
  ⟨fun ⟨flags, ly, visible, below, div, chunks, armed, bcps, ocps, cart, mem⟩ =>
    ⟨⟨ly, visible, chunks, armed, bcps, ocps, cart, mem⟩, flags, below, div⟩,
   fun ⟨⟨ly, visible, chunks, armed, bcps, ocps, cart, mem⟩, flags, below, div⟩ =>
    ⟨flags, ly, visible, below, div, chunks, armed, bcps, ocps, cart, mem⟩⟩

theorem divPeriod_pos (s : State) : 0 < divPeriod s := by
  unfold divPeriod; split <;> decide

/-- Reset with canonical memory has the invariant, whatever the other launch arguments (R60, R541). -/
theorem launched_inv (p : Launch) {cart : Cart} (ext : ExtUnit) {m : Mem} (fb : Frame) (hcart : cart.wf = true)
    (hmem : m.wf p.variant = true) : Inv (State.launched p cart ext m fb) where
  flagsLow := by
    show (Cpu.reset p.variant).f &&& 0x0F = 0
    cases p.variant <;> rfl
  lyRange := Nat.zero_le _
  visible _ := Nat.zero_le _
  ppuBelow := by show 0 < modeLength ((0x06 : Byte).setWidth 2); decide
  divBelow := divPeriod_pos _
  chunks := Nat.zero_le _
  armed := nofun
  bcpsBit := by show bit 0 6 = false; rfl
  ocpsBit := by show bit 0 6 = false; rfl
  cartWf := hcart
  memWf := hmem

/-- Polling the external unit keeps the invariant. -/
theorem pollExt_inv {s : State} (h : Inv s) : Inv (pollExt s) := by
  obtain ⟨hbus, hflags, hbelow, hdiv⟩ := (inv_iff s).1 h
  rw [(pollExt_frame s).1]
  exact (inv_iff _).2 ⟨hbus.congr rfl rfl rfl rfl, hflags, hbelow, hdiv⟩

/-- A raised `Fatal`, and the end of a halt before it, keep the invariant (R504). -/
theorem faulted_inv {s : State} (h : Inv s) (halted : Bool) (f : Option Fault) :
    Inv { s with cpu := { s.cpu with halted := halted }, fault := f } := by
  obtain ⟨hbus, hflags, hbelow, hdiv⟩ := (inv_iff s).1 h
  exact (inv_iff _).2 ⟨hbus.congr rfl rfl rfl rfl, hflags, hbelow, hdiv⟩

/-- The timer's advance keeps the invariant and needs nothing of the divider before it: what is left in `div_acc` is a
remainder by its period (R511). -/
theorem timerAdvance_inv (c : Nat) {s : State} (hbus : BusInv s) (hflags : s.cpu.f &&& 0x0F = 0)
    (hbelow : s.ppu.cycles < modeLength (ppuMode s)) : Inv (timerAdvance c s) := by
  obtain ⟨d, t, b, f, _, h⟩ := timerAdvance_frame c s
  rw [h]
  exact (inv_iff _).2 ⟨hbus.congr rfl rfl rfl rfl, hflags, hbelow, Nat.mod_lt _ (divPeriod_pos s)⟩

/-- Both units, after a CPU step that left the bus's part and the flags, bring the invariant about (R500). -/
theorem units_inv (n : Nat) {s v : State} (hbus : BusInv s) (hflags : s.cpu.f &&& 0x0F = 0)
    (hv : ppuAdvance n s = .ok v) : Inv (timerAdvance n v) := by
  obtain ⟨hkeeps, hinv, hbelow⟩ := ppuAdvance_keeps hv
  exact timerAdvance_inv n (hinv hbus) (by rw [hkeeps.cpu]; exact hflags) hbelow

/-- Only a machine that has not faulted has a step (R505, R28). -/
theorem fault_none_of_step {s t : State} (h : step s = .next t) : s.fault = none := by
  cases hf : s.fault with
  | none => rfl
  | some f => rw [step_faulted hf] at h; cases h

/-- Settles O6: reset with empty memories, which are canonical. -/
theorem resetHasInvariant : Obligations.ResetHasInvariant := by
  unfold Obligations.ResetHasInvariant
  exact launched_inv _ _ _ rfl rfl

/-- Settles O7, by what a step can do: a raised `Fatal` leaves the polled state, and a finished CPU step keeps the bus's part
and the flags, from which the two units bring the rest about. -/
theorem stepKeepsInvariant : Obligations.StepKeepsInvariant := by
  intro s t hinv hstep
  have hpoll := pollExt_inv hinv
  rcases step_cases (fault_none_of_step hstep) hstep with ⟨x, halted, rfl⟩ | ⟨u, c, v, heffect, _, hv, rfl⟩
  · exact faulted_inv hpoll halted (some x)
  · obtain ⟨hbus, hflags, _, _⟩ := (inv_iff _).1 hpoll
    have hcpu : BusInv { u with cpu := c } := (heffect.busInv hbus).congr rfl rfl rfl rfl
    exact units_inv c.cycles hcpu (heffect.flags hflags) hv

/-! ### Launch parameters and ROM -/

/-- The launch parameters of `s` and, where it is the default one, its cartridge stand in `t` (R62, R79). -/
def SameLaunchAndRom (s t : State) : Prop := t.launch = s.launch ∧ ∀ rom, s.cart = .noController rom → t.cart = s.cart

theorem SameLaunchAndRom.of_eq {s t : State} (hlaunch : t.launch = s.launch) (hcart : t.cart = s.cart) :
    SameLaunchAndRom s t := ⟨hlaunch, fun _ _ => hcart⟩

theorem SameLaunchAndRom.trans {s t u : State} (h : SameLaunchAndRom s t) (g : SameLaunchAndRom t u) :
    SameLaunchAndRom s u :=
  ⟨g.1.trans h.1, fun rom hs => (g.2 rom ((h.2 rom hs).trans hs)).trans (h.2 rom hs)⟩

theorem pollExt_sameLaunchAndRom (s : State) : SameLaunchAndRom s (pollExt s) := by
  rw [(pollExt_frame s).1]; exact .of_eq rfl rfl

theorem timerAdvance_sameLaunchAndRom (c : Nat) (s : State) : SameLaunchAndRom s (timerAdvance c s) := by
  obtain ⟨d, t, b, f, _, h⟩ := timerAdvance_frame c s
  rw [h]; exact .of_eq rfl rfl

/-- Settles O15: a `Fatal` touches neither; the CPU step's stores keep both, and the units do not reach them. -/
theorem launchAndRomNeverChange : Obligations.LaunchAndRomNeverChange := by
  intro s t hstep
  refine (pollExt_sameLaunchAndRom s).trans ?_
  rcases step_cases (fault_none_of_step hstep) hstep with ⟨x, halted, rfl⟩ | ⟨u, c, v, heffect, _, hv, rfl⟩
  · exact .of_eq rfl rfl
  · have hcpu : SameLaunchAndRom (pollExt s) { u with cpu := c } := ⟨heffect.writes.launch, heffect.writes.rom⟩
    have hppu := (ppuAdvance_keeps hv).1
    exact (hcpu.trans (.of_eq hppu.launch hppu.cart)).trans (timerAdvance_sameLaunchAndRom _ _)

/-! ### `IME`, `halted` and `PC` after an instruction -/

/-- What an instruction leaves in the CPU: it raised a `Fatal` and changed nothing else, or its form's effect. -/
theorem exec_cpu {i : Instr} {s t : State} (h : exec i s = .next t) :
    (t.cpu = s.cpu ∧ t.fault ≠ none) ∨ CpuEffect i.form s t.cpu := by
  rcases exec_outcomes i s with ⟨x, _, e⟩ | ⟨u, c, _, hc, e⟩ <;> rw [e] at h <;> cases h
  · exact .inl ⟨rfl, nofun⟩
  · exact .inr hc

/-- The one instruction that has the form, for the four forms that write `IME` or `halted` (R301, R303, R304, R291). -/
def systemInstr : Form → Option Instr
  | .ei => some .ei
  | .di => some .di
  | .reti => some .reti
  | .halt => some .halt
  | _ => none

/-- No row of the CB table has one of those forms (R132). -/
theorem systemInstr_cbForm (op2 : Byte) : systemInstr (cbForm op2) = none := by
  unfold cbForm
  dsimp only
  split <;> rfl

theorem systemInstr_form (i : Instr) : systemInstr i.form = none ∨ systemInstr i.form = some i := by
  cases i
  case prefix_CB op2 => exact .inl (systemInstr_cbForm op2)
  case ei | di | reti | halt => exact .inr rfl
  all_goals exact .inl rfl

/-- An instruction of one of those forms is that form's instruction. -/
theorem eq_of_form {i j : Instr} {f : Form} (hf : systemInstr f = some j) (h : i.form = f) : i = j := by
  subst h
  rcases systemInstr_form i with hi | hi <;> rw [hf] at hi <;> cases hi
  rfl

/-- The forms after which `IME` may differ (R26). -/
theorem form_of_imeAfter_ne {f : Form} {b : Bool} (h : imeAfter f b ≠ b) : f = .ei ∨ f = .di ∨ f = .reti := by
  unfold imeAfter at h
  split at h
  · exact .inl rfl
  · exact .inr (.inr rfl)
  · exact .inr (.inl rfl)
  · exact absurd rfl h

/-- The form after which `halted` may differ (R27). -/
theorem form_of_haltedAfter_ne {f : Form} {b : Bool} (h : haltedAfter f b ≠ b) : f = .halt := by
  unfold haltedAfter at h
  split at h
  · rfl
  · exact absurd rfl h

/-- Settles O13: the effect of every form on the two bits, and that the four forms are those four instructions alone. -/
theorem onlyFourInstructionsWriteImeAndHalted : Obligations.OnlyFourInstructionsWriteImeAndHalted := by
  intro i s t hexec
  rcases exec_cpu hexec with ⟨hcpu, hfault⟩ | heffect
  · exact ⟨fun h => absurd (by rw [hcpu]) h, fun h => absurd (by rw [hcpu]) h, fun h => absurd h hfault⟩
  · refine ⟨fun h => ?_, fun h => ?_, fun _ => ⟨?_, ?_, ?_⟩⟩
    · rw [heffect.ime] at h
      exact (form_of_imeAfter_ne h).imp (eq_of_form rfl) (.imp (eq_of_form rfl) (eq_of_form rfl))
    · rw [heffect.halted] at h
      exact eq_of_form rfl (form_of_haltedAfter_ne h)
    · rintro (rfl | rfl) <;> exact heffect.ime
    · rintro rfl; exact heffect.ime
    · rintro rfl; exact heffect.halted

/-- The length of a form is the number of its bytes (R129). -/
theorem formLen_eq_length (f : Form) : formLen f = BitVec.ofNat 16 (formBytes f).length := by
  cases f
  case ldA m => cases m <;> rfl
  case stA m => cases m <;> rfl
  case rotA op => cases op <;> rfl
  all_goals rfl

/-- Settles O18: a form that transfers no control moves `PC` by its length, which is the number of its bytes. -/
theorem pcAdvancesByLength : Obligations.PcAdvancesByLength := by
  intro i s t hexec _ hfault hform
  have hstay : transfers i.form s = false := by
    revert hform
    cases i.form <;> intro hform
    case jp | jpHL | jr | call | ret | rst | reti => exact hform.elim
    case jpCC | jrCC | callCC | retCC => exact hform
    all_goals rfl
  rcases exec_cpu hexec with ⟨_, hraised⟩ | heffect
  · exact absurd hfault hraised
  · rw [heffect.pc hstay, formLen_eq_length, encode_eq_formBytes]

/-! ### Reset -/

/-- The register pairs after reset, for each variant (R60). -/
theorem cpuReset_pairs (v : Variant) :
    pair (Cpu.reset v).a (Cpu.reset v).f = (if v = .dmg then 0x01B0 else 0x1180) ∧
    pair (Cpu.reset v).b (Cpu.reset v).c = (if v = .dmg then 0x0013 else 0x0000) ∧
    pair (Cpu.reset v).d (Cpu.reset v).e = (if v = .dmg then 0x00D8 else 0xFF56) ∧
    pair (Cpu.reset v).h (Cpu.reset v).l = (if v = .dmg then 0x014D else 0x000D) := by
  cases v <;> decide

/-- `SP`, `PC` and the hidden bits after reset, on both variants (R60). -/
theorem cpuReset_control (v : Variant) : (Cpu.reset v).sp = 0xFFFE ∧ (Cpu.reset v).pc = 0x0100 ∧
    (Cpu.reset v).ime = false ∧ (Cpu.reset v).halted = false := by
  cases v <;> decide

/-- Settles O5: the CPU's values for each variant; everything else is the same on both. -/
theorem resetValues : Obligations.ResetValues := by
  refine ⟨fun p cart ext m fb => ?_, rfl⟩
  obtain ⟨haf, hbc, hde, hhl⟩ := cpuReset_pairs p.variant
  obtain ⟨hsp, hpc, hime, hhalted⟩ := cpuReset_control p.variant
  refine ⟨haf, hbc, hde, hhl, hsp, hpc, hime, hhalted, ?_⟩
  and_intros <;> rfl

end Sys2Proof.Machine
end

section
/-! PROOFS. Family `20_memory`: the regions of the address map and the unmapped addresses, what a RAM write leaves for later
reads, and what no instruction changes in memory and in the units. -/

namespace Sys2Proof.Machine

/-! ### Reads and writes by location -/

/-- The write of a location, by the handler that decoding selects; `readLoc` is its counterpart. -/
def writeLoc (s : State) (a : Word) (v : Byte) : Loc → Except Fault State
  | .cartRom n => .ok (cartRomWrite s n v)
  | .cartRam n => .ok (cartRamWrite s n v)
  | .vram i => .ok (setVram s i v)
  | .wram i => .ok (setWram s i v)
  | .oam i => .ok (setOam s i v)
  | .hram i => .ok (setHram s i v)
  | .snd i => .ok (setSnd s i v)
  | .none => .ok s
  | .ext n => .ok (extWrite s n v)
  | .io r => ioWrite s r v
  | .ie => .ok { s with ie := v }
  | .unmapped _ =>
    match s.launch.unmappedPolicy with
    | .fatal => .error (.unmappedAddress a true)
    | .sentinel => .ok s

theorem memWrite_eq_writeLoc (s : State) (a : Word) (v : Byte) : memWrite s a v = writeLoc s a v (locate s a) := by
  unfold memWrite writeLoc; cases locate s a <;> rfl

/-- Two addresses of one location write alike, unless the location is unmapped. -/
theorem writeLoc_addr (s : State) (a b : Word) (v : Byte) {l : Loc} (h : ∀ n, l ≠ .unmapped n) :
    writeLoc s a v l = writeLoc s b v l := by
  cases l with
  | unmapped n => exact absurd rfl (h n)
  | _ => rfl

/-- An access to an address is an access to its location. -/
theorem access_of_locate {s : State} {a : Word} {l : Loc} (v : Byte) (h : locate s a = l) :
    memRead s a = readLoc s a l ∧ memWrite s a v = writeLoc s a v l :=
  h ▸ ⟨memRead_eq_readLoc s a, memWrite_eq_writeLoc s a v⟩

/-! ### The address map -/

/-- The default cartridge drops every write and has no RAM (R79). -/
theorem access_cartRom {s : State} {a : Word} (v : Byte) {n : Nat} {rom : Memory} (h : locate s a = .cartRom n)
    (hc : s.cart = .noController rom) : memRead s a = .ok (rom.read n) ∧ memWrite s a v = .ok s := by
  simpa only [readLoc, writeLoc, cartRomRead, cartRomWrite, hc] using access_of_locate v h

theorem access_cartRam {s : State} {a : Word} (v : Byte) {n : Nat} {rom : Memory} (h : locate s a = .cartRam n)
    (hc : s.cart = .noController rom) : memRead s a = .ok 0xFF ∧ memWrite s a v = .ok s := by
  simpa only [readLoc, writeLoc, cartRamRead, cartRamWrite, hc] using access_of_locate v h

/-- The default external unit reads as the open bus and drops every write (R88). -/
theorem access_ext {s : State} {a : Word} (v : Byte) {n : Nat} {polls : List (BitVec 2)} (h : locate s a = .ext n)
    (he : s.ext = .scripted polls) : memRead s a = .ok 0xFF ∧ memWrite s a v = .ok s := by
  simpa only [readLoc, writeLoc, extRead, extWrite, he] using access_of_locate v h

theorem vramBank_eq (s : State) : vramBank s = if s.launch.variant = .cgb then s.ppu.vbk.toNat else 0 := by
  unfold vramBank; cases s.launch.variant <;> rfl

theorem wramBank_eq (s : State) :
    wramBank s = if s.launch.variant = .cgb ∧ s.svbk ≠ 0 then s.svbk.toNat else 1 := by
  unfold wramBank
  cases s.launch.variant with
  | dmg => rfl
  | cgb => by_cases h : s.svbk = 0 <;> simp [h]

theorem locate_ext {s : State} {a : Word} (h1 : 0xFF00 ≤ a.toNat) (h2 : a.toNat < 0xFF03) :
    locate s a = .ext a.toNat := by
  rw [locate_io h1 (by omega), locateIo, if_pos h2]

theorem locate_snd {s : State} {a : Word} (h1 : 0xFF10 ≤ a.toNat) (h2 : a.toNat < 0xFF40) :
    locate s a = .snd (a.toNat - 0xFF10) := by
  rw [locate_io (by omega) (by omega), locateIo_snd _ h1 h2]

/-- Work RAM stands behind the addresses 0xC000 to 0xDFFF (R82, R83). -/
theorem locate_wram {s : State} {a : Word} (h1 : 0xC000 ≤ a.toNat) (h2 : a.toNat < 0xE000) :
    ∃ i, locate s a = .wram i := by
  by_cases h : a.toNat < 0xD000
  · exact ⟨_, locate_wram0 h1 h⟩
  · exact ⟨_, locate_wram1 (by omega) h2⟩

/-- An access to an echo address is the access 0x2000 lower (R85). -/
theorem access_echo (s : State) {a : Word} (v : Byte) (h1 : 0xE000 ≤ a.toNat) (h2 : a.toNat < 0xFE00) :
    memRead s a = memRead s (a - 0x2000) ∧ memWrite s a v = memWrite s (a - 0x2000) v := by
  have hn := echo_toNat h1
  obtain ⟨i, hi⟩ := locate_wram (s := s) (a := a - 0x2000) (by omega) (by omega)
  have hmapped : ∀ n, Loc.wram i ≠ .unmapped n := nofun
  rw [memRead_eq_readLoc, memRead_eq_readLoc, memWrite_eq_writeLoc, memWrite_eq_writeLoc, locate_echo h1 h2, hi]
  exact ⟨readLoc_addr s _ _ _ hmapped, writeLoc_addr s _ _ v hmapped⟩

/-- Settles O47: each region decodes to one location, whose access is the handler's. -/
theorem addressMapRegions : Obligations.AddressMapRegions := by
  intro s a v
  refine ⟨fun h _ hc => access_cartRom v (locate_rom h) hc, fun h h' => ?vram,
    fun h h' _ hc => access_cartRam v (locate_cartRam h h') hc, fun h h' => access_of_locate v (locate_wram0 h h'),
    fun h h' => ?wram, fun h h' => access_echo s v h h', fun h h' => access_of_locate v (locate_oam h h'),
    fun h h' => access_of_locate v (locate_noop h h'), fun h h' _ he => access_ext v (locate_ext h h') he,
    fun h h' => access_of_locate v (locate_snd h h'), fun h h' => access_of_locate v (locate_hram h h'),
    fun h => access_of_locate v (locate_ie h)⟩
  case vram => rw [← vramBank_eq]; exact access_of_locate v (locate_vram h h')
  case wram => rw [← wramBank_eq]; exact access_of_locate v (locate_wram1 h h')

/-! ### Unmapped addresses -/

/-- The addresses of the I/O window that no handler owns: the ones of both variants (R91), and on the monochrome console
those of the Color registers (R92). -/
@[reducible] def UnmappedAt (v : Variant) (n : Nat) : Prop :=
  n = 0xFF03 ∨ (0xFF08 ≤ n ∧ n ≤ 0xFF0E) ∨ (0xFF4C ≤ n ∧ n ≤ 0xFF4E) ∨ n = 0xFF50 ∨ (0xFF56 ≤ n ∧ n ≤ 0xFF67) ∨
  (0xFF6C ≤ n ∧ n ≤ 0xFF6F) ∨ (0xFF71 ≤ n ∧ n ≤ 0xFF7F) ∨
  (v = .dmg ∧ (n = 0xFF4F ∨ (0xFF51 ≤ n ∧ n ≤ 0xFF55) ∨ (0xFF68 ≤ n ∧ n ≤ 0xFF6B) ∨ n = 0xFF70))

theorem UnmappedAt.inWindow {v : Variant} {n : Nat} (h : UnmappedAt v n) : 0xFF00 ≤ n ∧ n < 0xFF80 := by
  unfold UnmappedAt at h; omega

/-- Checked on the 128 addresses of the I/O window. -/
theorem ioWindow_unmapped (v : Variant) : ∀ k, k < 128 →
    (locateIo v (0xFF00 + k) = .unmapped (0xFF00 + k) ↔ UnmappedAt v (0xFF00 + k)) := by
  cases v <;> decide

theorem isUnmapped_iff_locate (s : State) (a : Word) : isUnmapped s a = true ↔ locate s a = .unmapped a.toNat := by
  have hok := locate_ok s a
  unfold isUnmapped
  cases hl : locate s a with
  | unmapped k => rw [hl] at hok; exact ⟨fun _ => congrArg Loc.unmapped hok, fun _ => rfl⟩
  | _ => simp

/-- The unmapped addresses are those of the list (R91, R92). -/
theorem isUnmapped_iff (s : State) (a : Word) : isUnmapped s a = true ↔ UnmappedAt s.launch.variant a.toNat := by
  rw [isUnmapped_iff_locate]
  by_cases hio : 0xFF00 ≤ a.toNat ∧ a.toNat < 0xFF80
  · have h := ioWindow_unmapped s.launch.variant (a.toNat - 0xFF00) (by omega)
    rw [show 0xFF00 + (a.toNat - 0xFF00) = a.toNat by omega] at h
    rw [locate_io hio.1 hio.2, h]
  · refine iff_of_false (fun h => hio ?_) fun h => hio h.inWindow
    have hu := (isUnmapped_iff_locate s a).2 h
    rw [isUnmapped_eq, Bool.and_eq_true, decide_eq_true_eq] at hu
    exact hu.1

/-- Settles O46: the list of unmapped addresses, the access to such a location under each policy, and the laws of completion. -/
theorem unmappedAddressesAndCompletion : Obligations.UnmappedAddressesAndCompletion := by
  intro s a v
  refine ⟨isUnmapped_iff s a, fun hu hp => ?fatal, fun hu hp => ?sentinel, memRead_ok_iff s a, memWrite_ok_iff s a v⟩
  all_goals simpa only [readLoc, writeLoc, hp] using access_of_locate v ((isUnmapped_iff_locate s a).1 hu)

/-! ### RAM -/

/-- Whether an address is RAM is a matter of its location alone. -/
theorem isRam_congr {s t : State} {a : Word} (h : locate t a = locate s a) : isRam t a = isRam s a := by
  unfold isRam; rw [h]

/-- What a byte write to a RAM cell of a canonical memory leaves for later reads (R102). -/
structure RamWritten (s t : State) (a : Word) (v : Byte) : Prop where
  locates : ∀ b, locate t b = locate s b
  same : ∀ b, locate s b = locate s a → memRead t b = .ok v
  other : ∀ b, locate s b ≠ locate s a → memRead t b = memRead s b
  memWf : t.mem.wf t.launch.variant = true

theorem memWrite_ramWritten {s t : State} {a : Word} {v : Byte} (hwf : s.mem.wf s.launch.variant = true)
    (hram : isRam s a = true) (h : memWrite s a v = .ok t) : RamWritten s t a v := by
  obtain ⟨t', ht', hmem, hloc, hother, hcell⟩ := memWrite_ram s a v hram
  cases h.symm.trans ht'
  obtain ⟨hwf', hsame⟩ := hcell hwf
  exact {
    locates := hloc
    same := fun b hb => by rw [memRead_eq_readLoc, hloc, hb]; exact hsame b
    other := fun b hb => memRead_of_loc (hloc b) (hother b _ hb)
    memWf := by rw [(memWrite_keeps h).launch]; exact hwf' }

/-- A 16-bit write is one byte write after the other, the low byte first (R94). -/
theorem memWrite16_inv {s t : State} {a w : Word} (h : memWrite16 s a w = .ok t) :
    ∃ u, memWrite s a (lo w) = .ok u ∧ memWrite u (a + 1) (hi w) = .ok t := by
  unfold memWrite16 at h
  split at h
  · cases h
  · next u hu => exact ⟨u, hu, h⟩

/-- A 16-bit read gives the word of its two bytes (R93). -/
theorem memRead16_of_bytes {s : State} {a w : Word} (hlow : memRead s a = .ok (lo w))
    (hhigh : memRead s (a + 1) = .ok (hi w)) : memRead16 s a = .ok w := by
  simp only [memRead16, hlow, hhigh, pair_hi_lo]

/-- Both bytes of a word written to RAM are read back: the second write goes to another cell than the first. -/
theorem memWrite16_reads {s t : State} {a w : Word} (hwf : s.mem.wf s.launch.variant = true) (hlow : isRam s a = true)
    (hhigh : isRam s (a + 1) = true) (h : memWrite16 s a w = .ok t) :
    memRead t a = .ok (lo w) ∧ memRead t (a + 1) = .ok (hi w) := by
  obtain ⟨u, hu, ht⟩ := memWrite16_inv h
  have lowWritten := memWrite_ramWritten hwf hlow hu
  have hhigh' : isRam u (a + 1) = true := (isRam_congr (lowWritten.locates _)).trans hhigh
  have highWritten := memWrite_ramWritten lowWritten.memWf hhigh' ht
  have hne : locate u a ≠ locate u (a + 1) := by
    rw [lowWritten.locates, lowWritten.locates]; exact (isRam_succ_ne s a hlow).symm
  exact ⟨(highWritten.other a hne).trans (lowWritten.same a rfl), highWritten.same _ rfl⟩

/-- Settles O48: the byte write by its effect on the cell, the word by two of them. -/
theorem ramReadsLatestWrite : Obligations.RamReadsLatestWrite := by
  intro s t a hwf hram
  refine ⟨fun v h => ?byte, fun w hram' h => ?word⟩
  case byte =>
    have written := memWrite_ramWritten hwf hram h
    exact ⟨written.same, written.other, written.memWf⟩
  case word =>
    obtain ⟨hlow, hhigh⟩ := memWrite16_reads hwf hram hram' h
    exact ⟨hlow, hhigh, memRead16_of_bytes hlow hhigh⟩

/-! ### What an instruction leaves alone -/

/-- An instruction makes its form's stores, or none when it raises a `Fatal`; beyond them it changes the CPU and the fault
alone. -/
theorem exec_stores {i : Instr} {s t : State} (h : exec i s = .next t) :
    ∃ u, (u = s ∨ Stores i.form s u) ∧ t = { u with cpu := t.cpu, fault := t.fault } := by
  rcases exec_outcomes i s with ⟨x, _, e⟩ | ⟨u, c, hstores, _, e⟩ <;> rw [e] at h <;> cases h
  · exact ⟨s, .inl rfl, rfl⟩
  · exact ⟨u, .inr hstores, rfl⟩

/-- Settles O14: the stores of an instruction keep what any write keeps, and the rest of it reaches no unit. -/
theorem noInstructionAdvancesPpuOrTimer : Obligations.NoInstructionAdvancesPpuOrTimer := by
  intro i s t h
  obtain ⟨u, hu, ht⟩ := exec_stores h
  have keeps : WriteKeeps s u := hu.elim (fun e => e ▸ .refl s) Stores.keeps
  rw [ht]
  exact ⟨keeps.stat, keeps.cycles, keeps.framebuffer, keeps.framesOut, keeps.divAcc, keeps.timaAcc, keeps.ly, keeps.div⟩

/-- A form without an address to store to stores nothing. -/
theorem Stores.eq_of_none {f : Form} {s u : State} (h : Stores f s u) (h1 : storeAddr s f = Option.none)
    (h2 : storeAddr2 s f = Option.none) : u = s := by
  cases h with
  | none => rfl
  | one ea v u e => rw [h1] at e; cases e
  | up low w t u _ e => rw [h2] at e; cases e
  | down low w t u _ e => rw [h2] at e; cases e

/-- A one-byte store to a local address leaves every other location reading as before. -/
theorem Stores.memRead_one {f : Form} {s u : State} (h : Stores f s u) {ea : Word} (he : storeAddr s f = some ea)
    (hl : isLocal s ea = true) {b : Word} (hb : locate s b ≠ locate s ea) : memRead u b = memRead s b := by
  cases h with
  | none => rfl
  | one ea' v u e _ hw => cases he.symm.trans e; exact (memWrite_local hw hl).2.1 b hb
  | up low w t u e => rw [he] at e; cases e
  | down low w t u e => rw [he] at e; cases e

/-- Two writes to local addresses, one after the other, leave every other location reading as before. -/
theorem memRead_two_writes {s t u : State} {a a' b : Word} {v v' : Byte} (h : memWrite s a v = .ok t)
    (h' : memWrite t a' v' = .ok u) (hl : isLocal s a = true) (hl' : isLocal s a' = true)
    (hb : locate s b ≠ locate s a) (hb' : locate s b ≠ locate s a') : memRead u b = memRead s b := by
  obtain ⟨hloc, hread, hlocal⟩ := memWrite_local h hl
  obtain ⟨_, hread', _⟩ := memWrite_local h' ((hlocal a').trans hl')
  exact (hread' b (by rw [hloc, hloc]; exact hb')).trans (hread b hb)

/-- A two-byte store to local addresses leaves every other location reading as before, whichever byte goes first. -/
theorem Stores.memRead_two {f : Form} {s u : State} (h : Stores f s u) {low : Word} (he : storeAddr2 s f = some low)
    (hl : isLocal s low = true) (hl' : isLocal s (low + 1) = true) {b : Word} (hb : locate s b ≠ locate s low)
    (hb' : locate s b ≠ locate s (low + 1)) : memRead u b = memRead s b := by
  cases h with
  | none => rfl
  | one ea v u _ e => rw [he] at e; cases e
  | up low' w t u _ e h1 h2 => cases he.symm.trans e; exact memRead_two_writes h1 h2 hl hl' hb hb'
  | down low' w t u _ e h1 h2 => cases he.symm.trans e; exact memRead_two_writes h1 h2 hl' hl hb' hb

/-- Settles O53: an instruction changes memory by its form's stores alone, and those are none, one or two bytes. -/
theorem instructionMemoryFrame : Obligations.InstructionMemoryFrame := by
  intro i s t h
  obtain ⟨u, hu, ht⟩ := exec_stores h
  have hread : ∀ b, memRead t b = memRead u b := fun b => by rw [ht]; rfl
  refine ⟨fun h1 h2 => ?none, fun ea he hl b hb => ?one, fun low he hl hl' b hb hb' => ?two⟩
  case none =>
    have hus : u = s := hu.elim id fun hst => hst.eq_of_none h1 h2
    subst hus
    exact ⟨ht, hread⟩
  case one =>
    rw [hread]
    exact hu.elim (fun e => by rw [e]) fun hst => hst.memRead_one he hl hb
  case two =>
    rw [hread]
    exact hu.elim (fun e => by rw [e]) fun hst => hst.memRead_two he hl hl' hb hb'

end Sys2Proof.Machine
end

section
/-! PROOFS. Family `30_encoding`: the decoder's opcode maps against the field tables of the spec, and the encoder as the
decoder's inverse in both directions. -/

namespace Sys2Proof.Machine

/-! ### The rows of the opcode maps -/

/-- The bytes that follow the opcode `op` in memory, from its length (R135): one byte, or a word with the low byte first (R129). -/
def operandBytes (op b1 : Byte) (w : Word) : List Byte :=
  match opLength op with
  | 1 => []
  | 2 => [b1]
  | _ => [lo w, hi w]

/-- `i` is the row of the opcode maps for `op`, `b1`, `b2`: it has the form of the field tables (R131, R132), is not the prefix
row (R306) and is encoded by the opcode and its operand bytes (R129, R135). -/
structure RowAt (op b1 b2 : Byte) (i : Instr) : Prop where
  form : i.form = baseForm op b1 b2
  wellFormed : i.wellFormed = true
  encode : encode i = op :: operandBytes op b1 (pair b2 b1)

/-- Rows of the CB table have the forms of its fields (R132); none is the prefix row. -/
theorem cbRow_form_and_wellFormed (op2 : Byte) : (cbRow op2).form = cbForm op2 ∧ (cbRow op2).wellFormed = true := by
  revert op2; decide

theorem cbRow_rowAt (b1 b2 : Byte) : RowAt 0xCB b1 b2 (cbRow b1) := by
  obtain ⟨hform, hwf⟩ := cbRow_form_and_wellFormed b1
  exact ⟨hform, hwf, by rw [encode_eq_formBytes, hform, ← cbBytes]; rfl⟩

/-- The base table, row by row; the prefix byte's entry is the CB table (R130, R131). -/
theorem decode3_rowAt (op b1 b2 : Byte) : RowAt op b1 b2 (decode3 op b1 b2) := by
  obtain ⟨n, hn, rfl⟩ : ∃ n < 256, op = BitVec.ofNat 8 n := ⟨op.toNat, op.isLt, by simp⟩
  rcases Nat.lt_trichotomy n 0xCB with h | rfl | h
  · interval_cases n <;> exact ⟨rfl, rfl, rfl⟩
  · exact cbRow_rowAt b1 b2
  · interval_cases n <;> exact ⟨rfl, rfl, rfl⟩

/-- Settles O3: it is the form of each row. -/
theorem decodeFollowsFieldTables : Obligations.DecodeFollowsFieldTables :=
  fun op b1 b2 => (decode3_rowAt op b1 b2).form

/-! ### Decoding and encoding -/

/-- The decoder takes an opcode and as many operand bytes as its length says (R120, R135). -/
theorem decode_ok {bytes rest : List Byte} {i : Instr} (h : decode bytes = .ok (i, rest)) :
    ∃ op b1 b2, i = decode3 op b1 b2 ∧ bytes = op :: operandBytes op b1 (pair b2 b1) ++ rest := by
  unfold decode at h
  split at h
  · cases h
  next op tail =>
    split at h
    next hlen => cases h; exact ⟨op, 0, 0, rfl, by simp [operandBytes, hlen]⟩
    next b1 _ hlen => cases h; exact ⟨op, b1, 0, rfl, by simp [operandBytes, hlen]⟩
    next b1 b2 _ hlen => cases h; exact ⟨op, b1, b2, rfl, by simp [operandBytes, hlen]⟩
    · cases h

/-- Settles O2: the bytes taken are an opcode and its operands, and the row that they select is encoded by just those. -/
theorem encodeOfDecode : Obligations.EncodeOfDecode := by
  intro bytes rest i h
  obtain ⟨op, b1, b2, rfl, hbytes⟩ := decode_ok h
  have row := decode3_rowAt op b1 b2
  exact ⟨row.wellFormed, by rw [hbytes, row.encode]⟩

/-- Settles O1: one evaluation per instruction, with symbolic operands; a 16-bit operand is the pair of its two bytes. -/
theorem decodeOfEncode : Obligations.DecodeOfEncode := by
  intro i rest hwf
  cases i
  case prefix_CB => cases hwf
  case ld_BC_nn nn | ld_DE_nn nn | ld_HL_nn nn | ld_SP_nn nn | ld_mnn_SP nn | ld_mnn_A nn | ld_A_mnn nn | jp_nn nn |
      jp_NZ_nn nn | jp_Z_nn nn | jp_NC_nn nn | jp_C_nn nn | call_nn nn | call_NZ_nn nn | call_Z_nn nn | call_NC_nn nn |
      call_C_nn nn =>
    conv_rhs => rw [← pair_hi_lo nn]
    rfl
  all_goals rfl

/-- Settles O4: the decoder evaluates each word to its instruction. -/
theorem sampleWordsDecode : Obligations.SampleWordsDecode := by
  and_intros <;> rfl

end Sys2Proof.Machine
end

section
/-! PROOFS. Family `40_cpu_load8`: the 8-bit loads and stores, from what a bus read or write followed by the end of an
instruction comes to. -/

namespace Sys2Proof.Machine

/-! ### A bus access and the end of the instruction -/

/-- An instruction does what its form does. -/
theorem exec_of_form {i : Instr} {f : Form} (h : i.form = f) (s : State) : exec i s = runForm f s := by
  rw [exec_eq_runForm, h]

/-- A read that completes (R72). -/
theorem withByte_ok {s : State} {a : Word} {v : Byte} (h : memRead s a = .ok v) (k : Byte → Result) :
    withByte s a k = k v := by
  simp only [withByte, h]

/-- A read that raises a `Fatal` (R91). -/
theorem withByte_error {s : State} {a : Word} {f : Fault} (h : memRead s a = .error f) (k : Byte → Result) :
    Raises (withByte s a k) f := by
  simp only [withByte, h]; exact raises_raiseFatal ..

/-- A store that completes (R73) and whose instruction then leaves `c` in the CPU: since the write keeps the CPU, `c` may be
computed from the state before it. -/
theorem storeByte_cpu {s : State} {a : Word} {v : Byte} (h : canWrite s a v = true) {k : State → State} {c : Cpu}
    (hk : ∀ u : State, u.cpu = s.cpu → k u = { u with cpu := c }) :
    ∃ t, memWrite s a v = .ok t ∧ storeByte s a v k = .next { t with cpu := c } := by
  obtain ⟨t, ht, hcpu, hstore⟩ := storeByte_ok h k
  exact ⟨t, ht, by rw [hstore, hk t hcpu]⟩

/-- Ending an instruction writes `PC` and the cost over the registers. -/
theorem advance_of_cpu {u : State} {c : Cpu} (h : u.cpu = c) (len : Word) (cost : Nat) :
    advance len cost u = { u with cpu := { c with pc := c.pc + len, cycles := cost } } := by
  rw [← h]; rfl

/-! ### Loads and stores of a register -/

/-- Settles O20: each of the three forms writes the destination and advances; the third does so with the byte it read. -/
theorem loadRegister : Obligations.LoadRegister := by
  intro i s dst
  refine ⟨encode_eq_formBytes i, fun r h => ?register, fun n h => ?immediate,
    fun h => ⟨fun v hv => ?memory, fun f hf => ?fault⟩⟩ <;> rw [exec_of_form h]
  case register => exact ⟨_, rfl, regResult_set ..⟩
  case immediate => exact ⟨_, rfl, regResult_set ..⟩
  case memory => exact ⟨_, withByte_ok hv _, regResult_set ..⟩
  case fault => exact withByte_error hf _

/-- Both stores at `HL` are one store of a byte known beforehand (R154, R155). -/
theorem exec_storeToHL {i : Instr} {s : State} {v : Byte} {len : Word} {cost : Nat}
    (h : (∃ r, i.form = .ldMR r ∧ v = getR8 s r ∧ len = 1 ∧ cost = 8) ∨ (i.form = .ldMN v ∧ len = 2 ∧ cost = 12)) :
    exec i s = storeByte s (getHL s) v (advance len cost) := by
  rcases h with ⟨r, h, rfl, rfl, rfl⟩ | ⟨h, rfl, rfl⟩ <;> exact exec_of_form h s

/-- Settles O21: the one store of both forms completes or raises the write's `Fatal`. -/
theorem storeToHL : Obligations.StoreToHL := by
  intro i s v len cost h
  rw [exec_storeToHL h]
  exact ⟨encode_eq_formBytes i, fun hw => storeByte_cpu hw fun _ hu => advance_of_cpu hu len cost,
    fun f hf => storeByte_error hf _⟩

/-! ### Loads and stores of the accumulator -/

/-- A load of `A` in any addressing mode (R150): `A` takes the byte, then the mode moves its base register. -/
theorem exec_ldA {i : Instr} {m : AddrMode} {s : State} {v : Byte} (h : i.form = .ldA m)
    (hv : memRead s (modeAddr s m) = .ok v) :
    exec i s = .next (advance (modeLen m) (modeCost m) (modeAfter m (setR8 s .a v))) :=
  (exec_of_form h s).trans (withByte_ok hv _)

/-- Settles O22: the seven modes are one load. -/
theorem loadAccumulator : Obligations.LoadAccumulator := by
  intro i s v
  exact ⟨encode_eq_formBytes i, exec_ldA (m := .bc), exec_ldA (m := .de), fun nn => exec_ldA (m := .abs nn),
    fun n => exec_ldA (m := .high n), exec_ldA (m := .highC), exec_ldA (m := .hlInc), exec_ldA (m := .hlDec),
    fun m f h hf => by rw [exec_of_form h]; exact withByte_error hf _⟩

/-- What a mode does to its base register depends on the CPU alone and changes no more than the CPU. -/
theorem modeAfter_of_cpu {s u : State} (h : u.cpu = s.cpu) (m : AddrMode) :
    modeAfter m u = { u with cpu := (modeAfter m s).cpu } := by
  cases m <;> simp only [modeAfter, setHL, getHL, ← h]

/-- A store of `A` in any addressing mode (R150): the write, then the mode moves its base register. -/
theorem exec_stA {i : Instr} {m : AddrMode} {s : State} (h : i.form = .stA m)
    (hw : canWrite s (modeAddr s m) s.cpu.a = true) :
    ∃ t, memWrite s (modeAddr s m) s.cpu.a = .ok t ∧
      exec i s = .next { t with cpu := (advance (modeLen m) (modeCost m) (modeAfter m s)).cpu } := by
  rw [exec_of_form h]
  exact storeByte_cpu hw fun u hu => by rw [modeAfter_of_cpu hu]; rfl

/-- Settles O23: the seven modes are one store. -/
theorem storeAccumulator : Obligations.StoreAccumulator := by
  intro i s
  exact ⟨encode_eq_formBytes i, exec_stA (m := .bc), exec_stA (m := .de), fun nn => exec_stA (m := .abs nn),
    fun n => exec_stA (m := .high n), exec_stA (m := .highC), exec_stA (m := .hlInc), exec_stA (m := .hlDec),
    fun m f h hf => by rw [exec_of_form h]; exact storeByte_error hf _⟩

end Sys2Proof.Machine
end

section
/-! PROOFS. Family `41_cpu_load16_stack`: the 16-bit loads, the store of `SP`, and the stack instructions, from the two byte
accesses that each of them makes. -/

namespace Sys2Proof.Machine

/-! ### Loads of a pair -/

/-- `SP` plus a signed displacement (R183), with the low nibble and the low byte of the flag rule taken by masks. -/
theorem addSPDisp_eq (sp : Word) (e : Byte) : addSPDisp sp e = (sp + sext16 e,
    flagsByte false false (decide ((sp &&& 0x000F).toNat + (e &&& 0x0F).toNat > 0x0F))
      (decide ((sp &&& 0x00FF).toNat + e.toNat > 0xFF))) := by
  rw [word_nibble, word_lowByte, byte_nibble]; rfl

/-- Settles O24: each form writes its register or pair and advances; only the flags of `LD HL,SP+e` need the masks' law. -/
theorem loadPairs : Obligations.LoadPairs := by
  intro i s nn e
  refine ⟨encode_eq_formBytes i, fun h => exec_of_form h s, fun h => exec_of_form h s, fun h => exec_of_form h s,
    fun h => exec_of_form h s, fun h => exec_of_form h s, fun h => ?displacement⟩
  case displacement =>
    rw [exec_of_form h, runForm, ldHLFromSP, addSPDisp_eq]; rfl

/-! ### The store of `SP` -/

/-- A 16-bit write that can complete: whether the second byte can be written does not depend on the first. -/
theorem memWrite16_ok {s : State} {a w : Word} (h : canWrite16 s a w = true) :
    ∃ t u, memWrite s a (lo w) = .ok t ∧ memWrite t (a + 1) (hi w) = .ok u ∧ memWrite16 s a w = .ok u := by
  obtain ⟨hlow, hhigh⟩ := Bool.and_eq_true_iff.1 h
  obtain ⟨t, ht⟩ := (memWrite_ok_iff s a (lo w)).2 hlow
  obtain ⟨u, hu⟩ := (memWrite_ok_iff t (a + 1) (hi w)).2 ((canWrite_neighbour ht _ _ (.inl rfl)).trans hhigh)
  exact ⟨t, u, ht, hu, by simp only [memWrite16, ht, hu]⟩

theorem storeSP_ok {s u : State} {nn : Word} (h : memWrite16 s nn s.cpu.sp = .ok u) :
    storeSP nn s = .next (advance 3 20 u) := by
  simp only [storeSP, h]

theorem storeSP_error {s : State} {nn : Word} {f : Fault} (h : memWrite16 s nn s.cpu.sp = .error f) :
    Raises (storeSP nn s) f := by
  simp only [storeSP, h]; exact raises_raiseFatal ..

/-- Settles O25: the 16-bit write is the two byte writes, which keep the CPU, or the `Fatal` of the one that fails. -/
theorem storeStackPointer : Obligations.StoreStackPointer := by
  intro i s nn h
  rw [exec_of_form h]
  refine ⟨encode_eq_formBytes i, fun hw => ?completes, fun f hlow => ?lowFault, fun t f hlow hhigh => ?highFault⟩
  case completes =>
    obtain ⟨t, u, ht, hu, hword⟩ := memWrite16_ok hw
    have hcpu : u.cpu = s.cpu := (memWrite_keeps hu).cpu.trans (memWrite_keeps ht).cpu
    exact ⟨t, u, ht, hu, (storeSP_ok hword).trans (by rw [advance_of_cpu hcpu])⟩
  case lowFault => exact storeSP_error (by simp only [memWrite16, hlow])
  case highFault => exact storeSP_error (by simp only [memWrite16, hlow, hhigh])

/-! ### The stack -/

/-- Settles O26: the four pairs are one push. -/
theorem pushWritesPair : Obligations.PushWritesPair := by
  intro i s w h
  obtain ⟨rr, hform, rfl⟩ : ∃ rr, i.form = .push rr ∧ w = getR16S s rr := by
    rcases h with h | h | h | h <;> exact ⟨_, h⟩
  rw [exec_of_form hform]
  exact ⟨encode_eq_formBytes i, fun hw => pushThen_ok hw (advance 1 16), fun hw => pushThen_error hw _⟩

/-- A pop whose read of the low or of the high byte raises a `Fatal` (R186). -/
theorem popThen_raises {s : State} {f : Fault}
    (h : memRead s s.cpu.sp = .error f ∨ ∃ l, memRead s s.cpu.sp = .ok l ∧ memRead s (s.cpu.sp + 1) = .error f)
    (k : Word → State → State) : Raises (popThen s k) f := by
  have hpop : pop16 s = .error f := by
    rw [pop16_eq]
    rcases h with hlow | ⟨l, hlow, hhigh⟩
    · simp only [hlow]
    · simp only [hlow, hhigh]
  simp only [popThen, hpop]; exact raises_raiseFatal ..

/-- `POP` of any pair (R185): the pair takes the word of the two bytes read. -/
theorem exec_pop {i : Instr} {rr : Reg16S} {s : State} {l h : Byte} (hform : i.form = .pop rr)
    (hl : memRead s s.cpu.sp = .ok l) (hh : memRead s (s.cpu.sp + 1) = .ok h) :
    exec i s = .next (advance 1 12 (setR16S { s with cpu := { s.cpu with sp := s.cpu.sp + 2 } } rr (pair h l))) :=
  (exec_of_form hform s).trans (popThen_ok hl hh _)

/-- Settles O27: the bytes of the popped word are the two bytes read, for each pair. -/
theorem popReadsPair : Obligations.PopReadsPair := by
  intro i s rr hform
  refine ⟨encode_eq_formBytes i, fun l h hl hh => ?pairs, fun f hlow => ?lowFault, fun l f hlow hhigh => ?highFault⟩
  case pairs =>
    rw [exec_pop hform hl hh]
    refine ⟨?bc, ?de, ?hl, ?af⟩ <;> rintro rfl
    case bc => simp only [setR16S, setBC, hi_pair, lo_pair]; rfl
    case de => simp only [setR16S, setDE, hi_pair, lo_pair]; rfl
    case hl => simp only [setR16S, setHL, hi_pair, lo_pair]; rfl
    case af => simp only [setR16S, setAF, hi_pair, lo_pair]; rfl
  case lowFault => rw [exec_of_form hform]; exact popThen_raises (.inl hlow) _
  case highFault => rw [exec_of_form hform]; exact popThen_raises (.inr ⟨l, hlow, hhigh⟩) _

/-- Clearing the low nibble of the low byte clears that nibble of the word (R22). -/
theorem pair_highNibble (w : Word) : pair (hi w) (lo w &&& 0xF0) = w &&& 0xFFF0 := by
  have hmask : (0xFFF0 : Word) = pair 0xFF 0xF0 := rfl
  conv_rhs => rw [← pair_hi_lo w, hmask]
  unfold pair
  rw [BitVec.and_append, show hi w &&& 0xFF = hi w from BitVec.and_allOnes]

/-- A pair reads back what was written to it, but for the low nibble of `F` (R11, R22). -/
theorem getR16S_setR16S (s : State) (rr : Reg16S) (w : Word) :
    getR16S (setR16S s rr w) rr = if rr = .af then w &&& 0xFFF0 else w := by
  cases rr
  case af => exact pair_highNibble w
  all_goals exact pair_hi_lo w

/-- `PUSH` of any pair onto a stack in RAM (R184): `SP` is two lower and the value lies there, the low byte first. -/
theorem exec_push_ram {i : Instr} {rr : Reg16S} {s : State} (hform : i.form = .push rr)
    (hwf : s.mem.wf s.launch.variant = true) (hhigh : isRam s (s.cpu.sp - 1) = true)
    (hlow : isRam s (s.cpu.sp - 2) = true) :
    ∃ t, exec i s = .next t ∧ t.cpu.sp = s.cpu.sp - 2 ∧ memRead t t.cpu.sp = .ok (lo (getR16S s rr)) ∧
      memRead t (t.cpu.sp + 1) = .ok (hi (getR16S s rr)) := by
  obtain ⟨u, hpush, hcpu, -, -, hl, hh⟩ := push16_ram (w := getR16S s rr) hwf hhigh hlow
  have hexec : exec i s = .next (advance 1 16 u) := by
    rw [exec_of_form hform, runForm, pushPair]; simp only [pushThen, hpush]
  have hsp : (advance 1 16 u).cpu.sp = s.cpu.sp - 2 := congrArg Cpu.sp hcpu
  refine ⟨_, hexec, hsp, ?_, ?_⟩ <;> rw [hsp]
  · exact hl
  · rw [show s.cpu.sp - 2 + 1 = s.cpu.sp - 1 by bv_omega]; exact hh

/-- Settles O28: the pop reads the two bytes that the push left at the new `SP`. -/
theorem popUndoesPush : Obligations.PopUndoesPush := by
  intro i j rr qq s hpush hpop hwf hhigh hlow
  obtain ⟨t, hexec, hsp, hl, hh⟩ := exec_push_ram hpush hwf hhigh hlow
  have hpopped := exec_pop hpop hl hh
  rw [pair_hi_lo] at hpopped
  refine ⟨t, _, hexec, hpopped, ?sp, hsp, hl, hh, ?value⟩
  case sp =>
    have hback : t.cpu.sp + 2 = s.cpu.sp := by rw [hsp]; bv_omega
    cases qq <;> exact hback
  case value =>
    rw [← getR16S_setR16S { t with cpu := { t.cpu with sp := t.cpu.sp + 2 } } qq (getR16S s rr)]
    cases qq <;> rfl

end Sys2Proof.Machine
end

section
/-! PROOFS. Family `42_cpu_alu8`: 8-bit arithmetic and logic, from the closed form of each operation on bytes. -/

namespace Sys2Proof.Machine

/-! ### The accumulator operations -/

/-- Any of the three operand forms (R201) writes the operation's result and flags. -/
theorem exec_alu {i : Instr} {s : State} {op : AluOp} {v a f : Byte} {len : Word} {cost : Nat}
    (h : AluOperand i s op v len cost) (halu : aluByte op s.cpu.a v (flagC s) = (a, f)) :
    exec i s = .next { s with cpu := { s.cpu with a := a, f := f, pc := s.cpu.pc + len, cycles := cost } } := by
  rw [exec_aluOperand h, applyAlu, halu]; rfl

/-- The memory form raises the `Fatal` of its read (R201, R91). -/
theorem exec_aluM_error {i : Instr} {s : State} {op : AluOp} {f : Fault} (h : i.form = .aluM op)
    (hf : memRead s (getHL s) = .error f) : Raises (exec i s) f := by
  rw [exec_of_form h]; exact withByte_error hf _

/-- A sum with its flags (R202, R203): zero by the natural number, the half carry by masked nibbles. -/
theorem addByte_eq (a b : Byte) (cin : Bool) : addByte a b cin = (BitVec.ofNat 8 (a.toNat + b.toNat + cin.toNat),
    flagsByte (decide ((a.toNat + b.toNat + cin.toNat) % 256 = 0)) false
      (decide ((a &&& 0xF).toNat + (b &&& 0xF).toNat + cin.toNat > 0xF))
      (decide (a.toNat + b.toNat + cin.toNat > 0xFF))) := by
  simp only [addByte, beq_zero_toNat, BitVec.toNat_ofNat, byte_nibble]

/-- `ADD` and `ADC` are one sum; only `ADC` takes the carry in. -/
theorem aluByte_addition {op : AluOp} (h : op = .add ∨ op = .adc) (a b : Byte) (c : Bool) :
    aluByte op a b c = addByte a b (decide (op = .adc ∧ c = true)) := by
  rcases h with rfl | rfl
  · rfl
  · cases c <;> rfl

/-- Settles O29: one sum, with the carry in as a number. -/
theorem addAndAdc : Obligations.AddAndAdc := by
  intro i s op hop
  refine ⟨encode_eq_formBytes i, fun v len cost h => exec_alu h ?_, fun f => exec_aluM_error⟩
  simp only [aluByte_addition hop, addByte_eq, Bool.toNat, Bool.cond_decide]

/-- A difference of bytes is that of the integers (R204, R205). -/
theorem byte_sub_eq_ofInt (a b : Byte) (cin : Bool) :
    a - b - bitByte cin = BitVec.ofInt 8 ((a.toNat : Int) - b.toNat - cin.toNat) := by
  have hcin : (bitByte cin).toNat = cin.toNat := by cases cin <;> rfl
  apply BitVec.eq_of_toNat_eq
  simp only [BitVec.toNat_sub, BitVec.toNat_ofInt, hcin]
  omega

/-- A byte made of an integer is zero when the integer is a multiple of 256. -/
theorem byte_ofInt_beq_zero (n : Int) : (BitVec.ofInt 8 n == 0) = decide (n % 256 = 0) := by
  rw [beq_zero_toNat, BitVec.toNat_ofInt, decide_eq_decide]; omega

/-- A difference with its flags (R204, R205, R209), on the integers. -/
theorem subByte_eq (a b : Byte) (cin : Bool) :
    subByte a b cin = (BitVec.ofInt 8 ((a.toNat : Int) - b.toNat - cin.toNat),
      flagsByte (decide (((a.toNat : Int) - b.toNat - cin.toNat) % 256 = 0)) true
        (decide ((a &&& 0xF).toNat < (b &&& 0xF).toNat + cin.toNat))
        (decide ((a.toNat : Int) - b.toNat - cin.toNat < 0))) := by
  have hborrow : a.toNat < b.toNat + cin.toNat ↔ (a.toNat : Int) - b.toNat - cin.toNat < 0 := by omega
  simp only [subByte, byte_sub_eq_ofInt, byte_ofInt_beq_zero, byte_nibble, hborrow]

/-- `SUB`, `SBC` and `CP` are one difference; only `SBC` takes the borrow in, and `CP` keeps `A`. -/
theorem aluByte_subtraction {op : AluOp} (h : op = .sub ∨ op = .sbc ∨ op = .cp) (a b : Byte) (c : Bool) :
    aluByte op a b c = (if op = .cp then a else (subByte a b (decide (op = .sbc ∧ c = true))).1,
      (subByte a b (decide (op = .sbc ∧ c = true))).2) := by
  rcases h with rfl | rfl | rfl
  · rfl
  · cases c <;> rfl
  · rfl

/-- Settles O30: one difference, with the borrow in as a number. -/
theorem subSbcAndCp : Obligations.SubSbcAndCp := by
  intro i s op hop
  refine ⟨encode_eq_formBytes i, fun v len cost h => exec_alu h ?_, fun f => exec_aluM_error⟩
  simp only [aluByte_subtraction hop, subByte_eq, Bool.toNat, Bool.cond_decide]

/-- Settles O31: the flags depend on the result alone, whose bits are those of the byte operation. -/
theorem logicOperations : Obligations.LogicOperations := by
  intro i s op hop
  refine ⟨encode_eq_formBytes i, fun v len cost h => ?operation, fun f => exec_aluM_error⟩
  case operation =>
    simp only [← beq_zero_toNat]
    rcases hop with rfl | rfl | rfl
    · exact ⟨s.cpu.a &&& v, exec_alu h rfl, fun k => BitVec.getLsbD_and⟩
    · exact ⟨s.cpu.a ^^^ v, exec_alu h rfl, fun k => BitVec.getLsbD_xor⟩
    · exact ⟨s.cpu.a ||| v, exec_alu h rfl, fun k => BitVec.getLsbD_or⟩

/-! ### Increment and decrement -/

/-- `INC` and `DEC` of a byte, by the direction (R210, R212). -/
def incDecByte (down : Bool) (v : Byte) (c : Bool) : Byte × Byte := if down then decByte v c else incByte v c

/-- Both directions on natural numbers. -/
theorem incDecByte_eq (down : Bool) (v : Byte) (c : Bool) : incDecByte down v c =
    (BitVec.ofNat 8 (if down then v.toNat + 255 else v.toNat + 1),
      flagsByte (decide (v.toNat = if down then 1 else 255)) down (decide (v.toNat % 16 = if down then 0 else 15)) c) := by
  cases down
  · exact incByte_eq v c
  · exact decByte_eq v c

/-- `INC r` and `DEC r` write the new value and its flags. -/
theorem exec_incDecReg {i : Instr} {down : Bool} {r : Reg8}
    (h : down = false ∧ i.form = .incR r ∨ down = true ∧ i.form = .decR r) (s : State) :
    exec i s = .next (advance 1 4 (setF (setR8 s r (incDecByte down (getR8 s r) (flagC s)).1)
      (incDecByte down (getR8 s r) (flagC s)).2)) := by
  rcases h with ⟨rfl, h⟩ | ⟨rfl, h⟩ <;> exact exec_of_form h s

/-- `INC (HL)` and `DEC (HL)` read a byte and write the new value back. -/
theorem exec_incDecMem {i : Instr} {down : Bool}
    (h : down = false ∧ i.form = .incM ∨ down = true ∧ i.form = .decM) (s : State) :
    exec i s = withByte s (getHL s) fun v => storeByte s (getHL s) (incDecByte down v (flagC s)).1
      fun t => advance 1 12 (setF t (incDecByte down v (flagC s)).2) := by
  rcases h with ⟨rfl, h⟩ | ⟨rfl, h⟩ <;> exact exec_of_form h s

/-- Settles O32: one closed form for both directions, of a register and of the byte at `HL`. -/
theorem incrementAndDecrement : Obligations.IncrementAndDecrement := by
  intro i s down res flags
  have hval (v : Byte) : incDecByte down v (flagC s) = (res v, flags v) := incDecByte_eq ..
  refine ⟨encode_eq_formBytes i, fun r h => ?register, fun h => ?memory⟩
  case register => rw [exec_incDecReg h, hval]; exact ⟨_, rfl, regResult_setF ..⟩
  case memory =>
    simp only [exec_incDecMem h, hval]
    refine ⟨fun v hv => ?_, fun e he => withByte_error he _⟩
    rw [withByte_ok hv]
    exact ⟨fun hw => storeByte_cpu hw fun t ht => by rw [advance, setF, ht], fun e he => storeByte_error he _⟩

/-! ### Decimal adjust -/

/-- The whole adjustment of `DAA` from its two tests (R214). -/
def daaAdjustment (up low : Bool) : Nat := (if up then 0x60 else 0) + (if low then 0x06 else 0)

/-- Adding the two adjustments of `DAA` one after the other adds the whole adjustment. -/
theorem add_daaAdjustment (a : Byte) (up low : Bool) :
    (if low then (if up then a + 0x60 else a) + 0x06 else if up then a + 0x60 else a) =
      BitVec.ofNat 8 ((a.toNat + daaAdjustment up low) % 256) := by
  apply BitVec.eq_of_toNat_eq
  cases up <;> cases low <;> simp [daaAdjustment, Nat.mod_eq_of_lt a.isLt]

/-- Subtracting them likewise; 256 keeps the difference a natural number. -/
theorem sub_daaAdjustment (a : Byte) (up low : Bool) :
    (if low then (if up then a - 0x60 else a) - 0x06 else if up then a - 0x60 else a) =
      BitVec.ofNat 8 ((a.toNat + 256 - daaAdjustment up low) % 256) := by
  apply BitVec.eq_of_toNat_eq
  cases up <;> cases low <;> simp [daaAdjustment, BitVec.toNat_sub] <;> omega

/-- The upper adjustment keeps the low nibble. -/
theorem daa_upper_nibble (a : Byte) (up : Bool) : (if up then a + 0x60 else a).toNat % 16 = a.toNat % 16 := by
  cases up
  · rfl
  · simp only [if_true]; bv_omega

/-- A remainder of 256 as a byte is zero when it is 0. -/
theorem byte_ofNat_mod_beq_zero (n : Nat) : (BitVec.ofNat 8 (n % 256) == 0) = decide (n % 256 = 0) := by
  rw [beq_zero_toNat, BitVec.toNat_ofNat, Nat.mod_mod]

/-- `DAA` on natural numbers (R214), with both branches in one form. -/
theorem daaByte_eq (a : Byte) (n h c : Bool) :
    let up := if n then c else c || decide (a.toNat > 0x99)
    let low := if n then h else h || decide (a.toNat % 16 > 9)
    let adj := daaAdjustment up low
    let r := if n then (a.toNat + 256 - adj) % 256 else (a.toNat + adj) % 256
    daaByte a n h c = (BitVec.ofNat 8 r, flagsByte (decide (r = 0)) n false up) := by
  cases n
  case false =>
    simp only [daaByte, Bool.false_eq_true, if_false, daa_upper_nibble, add_daaAdjustment, byte_ofNat_mod_beq_zero]
  case true =>
    simp only [daaByte, if_true, sub_daaAdjustment, byte_ofNat_mod_beq_zero]

/-- Settles O33: the closed form of both branches, written to `A` and `F`. -/
theorem decimalAdjust : Obligations.DecimalAdjust := by
  intro i s h
  refine ⟨by rw [encode_eq_formBytes, h]; rfl, ?_⟩
  rw [exec_of_form h, runForm, daaOp, daaByte_eq]; rfl

/-! ### Complement and the carry flag -/

/-- The complement of a byte on natural numbers (R215). -/
theorem byte_not_eq_ofNat (a : Byte) : ~~~a = BitVec.ofNat 8 (255 - a.toNat) := by
  apply BitVec.eq_of_toNat_eq
  rw [BitVec.toNat_not, BitVec.toNat_ofNat]; omega

/-- Settles O34: `SCF` and `CCF` as the model writes them, `CPL` by the complement's value. -/
theorem complementAndCarryFlag : Obligations.ComplementAndCarryFlag := by
  intro i s
  refine ⟨encode_eq_formBytes i, fun h => ?cpl, fun h => exec_of_form h s, fun h => exec_of_form h s⟩
  case cpl => rw [exec_of_form h, runForm, cplOp, byte_not_eq_ofNat]; rfl

end Sys2Proof.Machine
end

section
/-! PROOFS. Family `43_cpu_alu16`: 16-bit arithmetic, each form as one operation on its pair. -/

namespace Sys2Proof.Machine

/-! ### The sum of two words -/

/-- The sum of two words with its flags (R240): the half carry, out of bit 11, by the masked low twelve bits. -/
theorem addWord_eq (a b : Word) (z : Bool) : addWord a b z = (BitVec.ofNat 16 (a.toNat + b.toNat),
    flagsByte z false (decide ((a &&& 0x0FFF).toNat + (b &&& 0x0FFF).toNat > 0x0FFF))
      (decide (a.toNat + b.toNat > 0xFFFF))) := by
  rw [word_low12, word_low12]; rfl

/-! ### Increment and decrement of a pair -/

/-- `INC rr` and `DEC rr` are one addition, of 1 or of 0xFFFF, that writes the pair back and no flag (R241, R242). -/
theorem exec_incDecPair {i : Instr} {rr : Reg16} {k : Word}
    (h : k = 1 ∧ i.form = .incRR rr ∨ k = 0xFFFF ∧ i.form = .decRR rr) (s : State) :
    exec i s = .next (advance 1 8 (setR16 s rr (getR16 s rr + k))) := by
  rcases h with ⟨rfl, h⟩ | ⟨rfl, h⟩
  · exact exec_of_form h s
  · have hsub : getR16 s rr - 1 = getR16 s rr + 0xFFFF := BitVec.sub_eq_add_neg ..
    rw [exec_of_form h, runForm, decPair, hsub]

/-- Settles O35: one sum for the four forms of `ADD HL,rr`, one addition for `INC rr` and `DEC rr`, and the displacement's sum. -/
theorem sixteenBitArithmetic : Obligations.SixteenBitArithmetic := by
  intro i s
  refine ⟨encode_eq_formBytes i, fun b h => ?addHL, fun k rr h => ?incDec, fun e h => ?addSP⟩
  case addHL =>
    obtain ⟨rr, hform, rfl⟩ : ∃ rr, i.form = .addHL rr ∧ b = getR16 s rr := by
      rcases h with h | h | h | h <;> exact ⟨_, h⟩
    rw [exec_of_form hform, runForm, addHLPair, addWord_eq]; rfl
  case incDec =>
    rw [exec_incDecPair h]
    refine ⟨?bc, ?de, ?hl, ?sp⟩ <;> rintro rfl <;> rfl
  case addSP =>
    rw [exec_of_form h, runForm, addSPImm, addSPDisp_eq]; rfl

end Sys2Proof.Machine
end

section
/-! PROOFS. Family `44_cpu_rotate_shift_bit`: rotates, shifts and bit operations, from their closed forms on bytes and from what
reading, changing and writing back the byte at `HL` comes to. -/

namespace Sys2Proof.Machine

/-! ### Rotates of the accumulator -/

/-- Settles O36: each of the four is a rotate of the CB table on `A`, with `Z` clear. -/
theorem rotateAccumulator : Obligations.RotateAccumulator := by
  intro i s op h
  refine ⟨encode_eq_formBytes i, ?_⟩
  obtain ⟨acc, hform, hrot⟩ : ∃ acc, i.form = .rotA acc ∧ ∀ a c, rotAByte acc a c =
      ((rotByte op a c).1, flagsByte false false false (rotByte op a c).2) := by
    rcases h with ⟨h, rfl⟩ | ⟨h, rfl⟩ | ⟨h, rfl⟩ | ⟨h, rfl⟩ <;> exact ⟨_, h, fun _ _ => rfl⟩
  rw [exec_of_form hform, runForm, rotAcc, hrot, rotByte_eq]; rfl

/-! ### Read, change and write back -/

/-- The byte at `a` is read, changed by `g` and written back, after which `c` stands in the CPU; a `Fatal` of the read or of the
write is raised. -/
theorem withByte_storeByte (s : State) (a : Word) (g : Byte → Byte) {k : Byte → State → State} {c : Byte → Cpu}
    (hk : ∀ v (u : State), u.cpu = s.cpu → k v u = { u with cpu := c v }) :
    (∀ v, memRead s a = .ok v →
      (canWrite s a (g v) = true → ∃ t, memWrite s a (g v) = .ok t ∧
        withByte s a (fun v => storeByte s a (g v) (k v)) = .next { t with cpu := c v }) ∧
      ∀ f, memWrite s a (g v) = .error f → Raises (withByte s a fun v => storeByte s a (g v) (k v)) f) ∧
    ∀ f, memRead s a = .error f → Raises (withByte s a fun v => storeByte s a (g v) (k v)) f := by
  refine ⟨fun v hv => ?_, fun f hf => withByte_error hf _⟩
  rw [withByte_ok hv]
  exact ⟨fun hw => storeByte_cpu hw (hk v), fun f hf => storeByte_error hf _⟩

/-! ### Rotates, shifts and the swap -/

/-- A rotate, shift or swap of a register, with the result and the flags on natural numbers (R254 to R262). The flags' law goes
first: it speaks of `rotByte`, which the result's law replaces. -/
theorem rotReg_eq (op : RotOp) (r : Reg8) (s : State) :
    let q := rotNat op (getR8 s r).toNat (flagC s).toNat
    rotReg op r s = .next (advance 2 8 (setF (setR8 s r (BitVec.ofNat 8 q.1))
      (flagsByte (decide (q.1 = 0)) false false q.2))) := by
  simp only [rotReg, rotFlags_eq]
  rw [rotByte_eq]

/-- A rotate, shift or swap of the byte at `HL`, likewise. -/
theorem rotMem_eq (op : RotOp) (s : State) :
    let q := fun v : Byte => rotNat op v.toNat (flagC s).toNat
    rotMem op s = withByte s (getHL s) fun v => storeByte s (getHL s) (BitVec.ofNat 8 (q v).1)
      fun t => advance 2 16 (setF t (flagsByte (decide ((q v).1 = 0)) false false (q v).2)) := by
  simp only [rotMem, rotFlags_eq]
  simp only [rotByte_eq]

/-- Settles O37: the closed form of the eight operations, written to the register or back to `HL`. -/
theorem rotateShiftSwap : Obligations.RotateShiftSwap := by
  intro i s op q
  refine ⟨encode_eq_formBytes i, fun r h => ?register, fun h => ?memory⟩
  case register => rw [exec_of_form h, runForm, rotReg_eq]; exact ⟨_, rfl, regResult_setF ..⟩
  case memory =>
    rw [exec_of_form h, runForm, rotMem_eq]
    exact withByte_storeByte s (getHL s) (fun v => BitVec.ofNat 8 (q v).1) fun v u hu => by rw [advance, setF, hu]

/-! ### Single bits -/

/-- Settles O38: both operand forms write the flags of the bit alone; the byte at `HL` is only read. -/
theorem bitTest : Obligations.BitTest := by
  intro i s b
  refine ⟨encode_eq_formBytes i, fun v cost h => ?operand, fun f h hf => ?fault⟩
  case operand =>
    rw [← bitFlags_eq]
    rcases h with ⟨r, h, rfl, rfl⟩ | ⟨h, hv, rfl⟩
    · exact exec_of_form h s
    · exact (exec_of_form h s).trans (withByte_ok hv _)
  case fault => rw [exec_of_form h]; exact withByte_error hf _

/-- `RES` and `SET` of a byte, by the value that the bit takes (R264, R265). -/
def putBit (one : Bool) (v : Byte) (b : Nat) : Byte := if one then setByte v b else resByte v b

theorem putBit_bit (one : Bool) (v : Byte) {b k : Nat} (hk : k < 8) :
    (putBit one v b).getLsbD k = if k = b then one else v.getLsbD k := by
  cases one
  · exact resByte_bit v b k hk
  · exact setByte_bit v b k hk

/-- The bits that the statement asks for determine the byte. -/
theorem eq_putBit {one : Bool} {v w : Byte} {b : Nat}
    (h : ∀ k, k < 8 → w.getLsbD k = if k = b then one else v.getLsbD k) : w = putBit one v b :=
  byte_of_bits fun k hk => (h k hk).trans (putBit_bit one v hk).symm

/-- `RES b,r` and `SET b,r` write the register alone. -/
theorem exec_putBitReg {i : Instr} {one : Bool} {b : Nat} {r : Reg8}
    (h : one = false ∧ i.form = .resR b r ∨ one = true ∧ i.form = .setR b r) (s : State) :
    exec i s = .next (advance 2 8 (setR8 s r (putBit one (getR8 s r) b))) := by
  rcases h with ⟨rfl, h⟩ | ⟨rfl, h⟩ <;> exact exec_of_form h s

/-- `RES b,(HL)` and `SET b,(HL)` read the byte and write it back, whatever its bit was. -/
theorem exec_putBitMem {i : Instr} {one : Bool} {b : Nat}
    (h : one = false ∧ i.form = .resM b ∨ one = true ∧ i.form = .setM b) (s : State) :
    exec i s = withByte s (getHL s) fun v => storeByte s (getHL s) (putBit one v b) (advance 2 16) := by
  rcases h with ⟨rfl, h⟩ | ⟨rfl, h⟩ <;> exact exec_of_form h s

/-- Settles O39: the byte with the stated bits is the one that the operation writes, to the register or back to `HL`. -/
theorem resetAndSetBit : Obligations.ResetAndSetBit := by
  intro i s b one
  refine ⟨encode_eq_formBytes i, fun r w h hbits => ?register, fun h => ?memory⟩
  case register => rw [exec_putBitReg h, eq_putBit hbits]; exact ⟨_, rfl, regResult_set ..⟩
  case memory =>
    rw [exec_putBitMem h]
    obtain ⟨hwrite, hread⟩ := withByte_storeByte s (getHL s) (putBit one · b) (k := fun _ => advance 2 16)
      fun _ _ hu => advance_of_cpu hu 2 16
    refine ⟨fun v w hv hbits => ?_, hread⟩
    rw [eq_putBit hbits]
    exact hwrite v hv

end Sys2Proof.Machine
end

section
/-! PROOFS. Family `45_cpu_control`: jumps, calls and returns, the conditional forms by whether their condition holds. -/

namespace Sys2Proof.Machine

/-! ### Jumps -/

/-- The four conditions by the bits of `F` (R126, R280). -/
theorem condHolds_of_flagBits {s : State} {cc : Cond} {holds : Bool}
    (h : (cc = .nz ∧ holds = !s.cpu.f.getLsbD 7) ∨ (cc = .z ∧ holds = s.cpu.f.getLsbD 7) ∨
      (cc = .nc ∧ holds = !s.cpu.f.getLsbD 4) ∨ (cc = .c ∧ holds = s.cpu.f.getLsbD 4)) : condHolds s cc = holds := by
  rcases h with ⟨rfl, rfl⟩ | ⟨rfl, rfl⟩ | ⟨rfl, rfl⟩ | ⟨rfl, rfl⟩ <;> rfl

/-- `JP cc,nn` (R282): both ways write `PC` and the cost alone. -/
theorem jpIf_eq (cc : Cond) (nn : Word) (s : State) : jpIf cc nn s = .next { s with cpu := { s.cpu with
    pc := if condHolds s cc then nn else s.cpu.pc + 3, cycles := if condHolds s cc then 16 else 12 } } := by
  unfold jpIf; cases condHolds s cc <;> rfl

/-- `JR cc,e` (R285), likewise. -/
theorem jrIf_eq (cc : Cond) (e : Byte) (s : State) : jrIf cc e s = .next { s with cpu := { s.cpu with
    pc := if condHolds s cc then s.cpu.pc + 2 + sext16 e else s.cpu.pc + 2,
    cycles := if condHolds s cc then 12 else 8 } } := by
  unfold jrIf; cases condHolds s cc <;> rfl

/-- Settles O41: the unconditional jumps as the model writes them, the conditional ones by the value of their condition. -/
theorem jumps : Obligations.Jumps := by
  intro i s nn e
  refine ⟨encode_eq_formBytes i, fun h => exec_of_form h s, fun h => exec_of_form h s, fun h => exec_of_form h s,
    fun cc holds hcc => ?conditional⟩
  case conditional =>
    rw [← condHolds_of_flagBits hcc]
    exact ⟨fun h => (exec_of_form h s).trans (jpIf_eq cc nn s), fun h => (exec_of_form h s).trans (jrIf_eq cc e s)⟩

/-! ### Calls -/

/-- A call or restart that is made is one push and one jump, whichever its form (R286, R287, R290). -/
theorem exec_callTaken {i : Instr} {s : State} {ret target : Word} {cost : Nat}
    (h : (i.form = .call target ∧ ret = s.cpu.pc + 3 ∧ cost = 24) ∨
      (∃ cc, i.form = .callCC cc target ∧ condHolds s cc = true ∧ ret = s.cpu.pc + 3 ∧ cost = 24) ∨
      (∃ t8, i.form = .rst t8 ∧ target = zext16 t8 ∧ ret = s.cpu.pc + 1 ∧ cost = 16)) :
    exec i s = pushThen s ret (jumpTo target cost) := by
  rcases h with ⟨hform, rfl, rfl⟩ | ⟨cc, hform, hcc, rfl, rfl⟩ | ⟨t8, hform, rfl, rfl, rfl⟩
  · exact exec_of_form hform s
  · exact (exec_of_form hform s).trans (if_pos hcc)
  · exact exec_of_form hform s

/-- Settles O42: the one push of all three forms completes or raises a write's `Fatal`. -/
theorem callsPushReturnAddress : Obligations.CallsPushReturnAddress := by
  intro i s ret target cost
  refine ⟨encode_eq_formBytes i, fun h => ?taken, fun cc hform hcc => ?notTaken⟩
  case taken =>
    rw [exec_callTaken h]
    exact ⟨fun hw => pushThen_ok hw _, fun hw => pushThen_error hw _⟩
  case notTaken => rw [exec_of_form hform, runForm, callIf, hcc]; rfl

/-! ### Returns -/

/-- `RET cc` with its condition true pops as `RET` does, at its own cost (R289). -/
theorem exec_retCC_taken {i : Instr} {s : State} {cc : Cond} (hform : i.form = .retCC cc)
    (hcc : condHolds s cc = true) : exec i s = popThen s fun w t => jumpTo w 20 t :=
  (exec_of_form hform s).trans (if_pos hcc)

/-- Every return that is made is one pop (R288, R289, R291). -/
theorem exec_return_popThen {i : Instr} {s : State}
    (h : i.form = .ret ∨ i.form = .reti ∨ ∃ cc, i.form = .retCC cc ∧ condHolds s cc = true) :
    ∃ k, exec i s = popThen s k := by
  rcases h with hform | hform | ⟨cc, hform, hcc⟩
  · exact ⟨_, exec_of_form hform s⟩
  · exact ⟨_, exec_of_form hform s⟩
  · exact ⟨_, exec_retCC_taken hform hcc⟩

/-- Settles O43: each return's pop gives the word of the two bytes read, or raises a read's `Fatal`. -/
theorem returnsPopPc : Obligations.ReturnsPopPc := by
  intro i s
  refine ⟨encode_eq_formBytes i, fun l h hl hh => ⟨fun hform => ?ret, fun cc hform hcc => ?retCC, fun hform => ?reti⟩,
    fun cc hform hcc => ?notTaken, fun hpop hform => ?fault⟩
  case ret => exact (exec_of_form hform s).trans (popThen_ok hl hh _)
  case retCC => exact (exec_retCC_taken hform hcc).trans (popThen_ok hl hh _)
  case reti => exact (exec_of_form hform s).trans (popThen_ok hl hh _)
  case notTaken => rw [exec_of_form hform, runForm, retIf, hcc]; rfl
  case fault =>
    obtain ⟨k, hexec⟩ := exec_return_popThen hform
    rw [hexec]
    exact popThen_error hpop k

end Sys2Proof.Machine
end

section
/-! PROOFS. Family `46_cpu_misc`: the system instructions, the illegal opcodes and the prefix byte. -/

namespace Sys2Proof.Machine

/-! ### System instructions -/

/-- Settles O44: each form is written in the model as one update of the state. -/
theorem systemInstructions : Obligations.SystemInstructions := fun i s =>
  ⟨encode_eq_formBytes i, fun h => exec_of_form h s, fun h => exec_of_form h s, fun h => exec_of_form h s,
    fun h => exec_of_form h s, fun _ h => exec_of_form h s⟩

/-! ### Illegal opcodes -/

/-- The field tables leave the eleven opcodes of R133 without a row, and no others. -/
theorem baseForm_illegal_iff : ∀ op : Byte, baseForm op 0 0 = .illegal op ↔
    op ∈ ([0xD3, 0xDB, 0xDD, 0xE3, 0xE4, 0xEB, 0xEC, 0xED, 0xF4, 0xFC, 0xFD] : List Byte) := by
  decide

/-- An illegal opcode is one byte (R305). -/
theorem encode_of_illegal {i : Instr} {op : Byte} (h : i.form = .illegal op) : encode i = [op] := by
  rw [encode_eq_formBytes, h]; rfl

/-- The prefix row, being two bytes, is not of the illegal form. -/
theorem wellFormed_of_illegal {i : Instr} {op : Byte} (h : i.form = .illegal op) : i.wellFormed = true := by
  have hbytes := encode_of_illegal h
  cases i
  case prefix_CB => cases hbytes
  all_goals rfl

/-- The illegal form is decoded from its one byte. -/
theorem decode_of_illegal {i : Instr} {op : Byte} (h : i.form = .illegal op) : decode [op] = .ok (i, []) := by
  simpa only [encode_of_illegal h, List.append_nil] using decodeOfEncode i [] (wellFormed_of_illegal h)

/-- What one byte decodes to is its row of the base table. -/
theorem eq_decode3_of_decode_byte {i : Instr} {op : Byte} (h : decode [op] = .ok (i, [])) : i = decode3 op 0 0 := by
  simp only [decode] at h
  split at h
  next => cases h; rfl
  next hnil => cases hnil
  next hnil => cases hnil
  next => cases h

/-- Settles O45: an instruction of the illegal form is decoded from its one byte, so it is that byte's row of the base table,
and the rows of the illegal form are the eleven. -/
theorem illegalOpcodesRaise : Obligations.IllegalOpcodesRaise := by
  refine ⟨fun i s op h => ⟨exec_of_form h s, encode_of_illegal h, ?member⟩, fun op hop => ?decodes⟩
  case member =>
    have hrow := eq_decode3_of_decode_byte (decode_of_illegal h)
    have hform := (decode3_rowAt op 0 0).form
    rw [← hrow, h] at hform
    exact (baseForm_illegal_iff op).1 hform.symm
  case decodes =>
    have hform := (decode3_rowAt op 0 0).form.trans ((baseForm_illegal_iff op).2 hop)
    exact ⟨decode3 op 0 0, decode_of_illegal hform, hform⟩

/-! ### The prefix byte -/

/-- Settles O40: the row that the two bytes select has the prefix row's form, and the form alone says what an instruction does. -/
theorem prefixRowIsItsCbRow : Obligations.PrefixRowIsItsCbRow := by
  intro op2
  obtain ⟨hform, hwf⟩ := cbRow_form_and_wellFormed op2
  refine ⟨cbRow op2, rfl, hform, fun b hb => ?notPrefix, fun s => ?sameNext⟩
  case notPrefix => rw [hb] at hwf; cases hwf
  case sameNext =>
    obtain ⟨t, ht⟩ := exec_next (cbRow op2) s
    exact ⟨t, (cbRun_eq_runForm op2 s).trans ((exec_of_form hform s).symm.trans ht), ht⟩

end Sys2Proof.Machine
end

section
/-! PROOFS. Family `47_ppu_registers`: the registers of the I/O window, from the handler each address decodes to, and the two
DMA copies, each as one fill of a memory list. -/

namespace Sys2Proof.Machine

/-! ### The control registers -/

/-- Narrowing a byte keeps its remainder. -/
theorem setWidth_eq_ofNat_mod (n : Nat) (v : Byte) : v.setWidth n = BitVec.ofNat n (v.toNat % 2 ^ n) :=
  BitVec.eq_of_toNat_eq (by simp)

/-- A write to `STAT` keeps the low three bits of the register and takes the others from the byte (R324). -/
theorem stat_written_bit (old v : Byte) (k : Nat) (hk : k < 8) :
    ((old &&& 0x07) ||| (v &&& 0xF8)).getLsbD k = if k < 3 then old.getLsbD k else v.getLsbD k := by
  have masks : ∀ k, k < 8 → (0x07 : Byte).getLsbD k = decide (k < 3) ∧ (0xF8 : Byte).getLsbD k = !decide (k < 3) := by
    decide
  obtain ⟨hlow, hhigh⟩ := masks k hk
  rw [BitVec.getLsbD_or, BitVec.getLsbD_and, BitVec.getLsbD_and, hlow, hhigh]
  by_cases h : k < 3 <;> simp [h]

/-- An access to an address of the I/O window that has a register is an access to the register. -/
theorem access_io {s : State} {a : Word} (r : IoReg) (v : Byte) (h : locate s a = .io r) :
    memRead s a = .ok (ioRead s r) ∧ memWrite s a v = ioWrite s r v := access_of_locate v h

/-- Settles O49: each address decodes to its register, whose read and write the model gives in the stated form, but for the
narrowing of `IF` and the masks of `STAT`. -/
theorem controlRegisters : Obligations.ControlRegisters := by
  intro s v
  refine ⟨access_io .div v rfl, access_io .tima v rfl, access_io .tma v rfl, access_io .tac v rfl, ?ifr,
    access_io .lcdc v rfl, ?stat, access_io .scy v rfl, access_io .scx v rfl, access_io .ly v rfl, access_io .lyc v rfl,
    (access_io .dma v rfl).1, access_io .bgp v rfl, access_io .obp0 v rfl, access_io .obp1 v rfl, access_io .wy v rfl,
    access_io .wx v rfl, access_of_locate v (l := .ie) rfl⟩
  case ifr =>
    have narrowed : v.setWidth 5 = BitVec.ofNat 5 (v.toNat % 32) := setWidth_eq_ofNat_mod 5 v
    rw [BitVec.ofNat_toNat, ← narrowed]
    exact access_io .ifr v rfl
  case stat =>
    obtain ⟨hread, hwrite⟩ := access_io (s := s) .stat v (a := 0xFF41) rfl
    exact ⟨hread, _, hwrite, stat_written_bit s.ppu.stat v⟩

/-! ### The Color registers -/

/-- On the Color console an access to the address of a Color register is an access to the register (R92). -/
theorem access_cgbReg {s : State} (hcgb : s.launch.variant = .cgb) (a : Word) (r : IoReg) (v : Byte)
    (h : locateIo .cgb a.toNat = .io r) (h1 : 0xFF00 ≤ a.toNat := by decide) (h2 : a.toNat < 0xFF80 := by decide) :
    memRead s a = .ok (ioRead s r) ∧ memWrite s a v = ioWrite s r v :=
  access_io r v (by rw [locate_io h1 h2, hcgb, h])

/-- Bit 7 of a byte says whether it is 128 or more. -/
theorem bit7_iff : ∀ v : Byte, bit v 7 = true ↔ 128 ≤ v.toNat := by decide

/-- The bank selects read with their unused bits set (R84, R336). -/
theorem vbk_read : ∀ b : BitVec 1, 0xFE ||| b.setWidth 8 = (0xFE : Byte) + BitVec.ofNat 8 b.toNat := by decide

theorem svbk_read : ∀ b : BitVec 3, 0xF8 ||| b.setWidth 8 = (0xF8 : Byte) + BitVec.ofNat 8 b.toNat := by decide

/-- The palette index counts up modulo 64 below the increment bit (R347). -/
theorem palNext_eq (p : Byte) : palNext p = if 128 ≤ p.toNat then BitVec.ofNat 8 (128 + (p.toNat + 1) % 64) else p := by
  have joined : ∀ k, k < 64 → (0x80 : Byte) ||| BitVec.ofNat 8 k = BitVec.ofNat 8 (128 + k) := by decide
  simp only [palNext, palIndex, bit7_iff, joined _ (Nat.mod_lt _ (by decide)), Nat.mod_add_mod]

/-- The count that `HDMA5` reads is the number of chunks left, less one (R343). -/
theorem hdma5Read_active {d : Hdma} (hle : d.remaining ≤ 128) (hpos : 0 < d.remaining) (ha : d.active = true) :
    hdma5Read d = BitVec.ofNat 8 (d.remaining - 1) := by
  have count : ∀ n, n < 129 → 0 < n → (BitVec.ofNat 8 n - 1) &&& 0x7F = BitVec.ofNat 8 (n - 1) := by decide
  simp only [hdma5Read, ha, if_true]
  exact count _ (by omega) hpos

theorem hdma5Read_inactive {d : Hdma} (hle : d.remaining ≤ 128) (ha : d.active = false) :
    hdma5Read d = if d.remaining = 0 then 0xFF else BitVec.ofNat 8 (128 + (d.remaining - 1)) := by
  have count : ∀ n, n < 129 → n ≠ 0 →
      0x80 ||| ((BitVec.ofNat 8 n - 1) &&& 0x7F) = BitVec.ofNat 8 (128 + (n - 1)) := by decide
  simp only [hdma5Read, ha, Bool.false_eq_true, if_false]
  split
  · rfl
  · next hne => exact count _ (by omega) hne

/-- A write to `HDMA5` with bit 7 set arms a transfer from the latched addresses (R341). -/
theorem hdma5Write_arm {v : Byte} (s : State) (hv : 128 ≤ v.toNat) :
    hdma5Write s v = .ok (setHdma s { s.ppu.hdma with
      src := hdmaSrc0 s.ppu.hdma, dst := hdmaDst0 s.ppu.hdma, remaining := v.toNat - 128 + 1, active := true }) := by
  have hn : v.toNat % 128 = v.toNat - 128 := by have := v.isLt; omega
  rw [hdma5Write, if_pos ((bit7_iff v).2 hv), hn]

/-- One without bit 7, while a transfer is armed, cancels it (R341). -/
theorem hdma5Write_cancel {s : State} {v : Byte} (hv : v.toNat < 128) (ha : s.ppu.hdma.active = true) :
    hdma5Write s v = .ok (setHdma s { s.ppu.hdma with active := false }) := by
  rw [hdma5Write, if_neg (by rw [bit7_iff]; omega), if_pos ha]

/-- Settles O50: each address decodes to its register on the Color console; the reads and writes that the model gives by masks
and bits take the stated arithmetical form. -/
theorem colorRegisters : Obligations.ColorRegisters := by
  intro s v hcgb
  obtain ⟨src0, srcHi⟩ := access_cgbReg hcgb 0xFF51 .hdma1 v rfl
  obtain ⟨src1, srcLo⟩ := access_cgbReg hcgb 0xFF52 .hdma2 v rfl
  obtain ⟨dst0, dstHi⟩ := access_cgbReg hcgb 0xFF53 .hdma3 v rfl
  obtain ⟨dst1, dstLo⟩ := access_cgbReg hcgb 0xFF54 .hdma4 v rfl
  obtain ⟨status, control⟩ := access_cgbReg hcgb 0xFF55 .hdma5 v rfl
  obtain ⟨bcps, bcps'⟩ := access_cgbReg hcgb 0xFF68 .bcps v rfl
  obtain ⟨ocps, ocps'⟩ := access_cgbReg hcgb 0xFF6A .ocps v rfl
  refine ⟨?vbk, ?svbk, ⟨src0, src1, dst0, dst1⟩, ⟨srcHi, srcLo, dstHi, dstLo⟩, fun hv => ?arm, fun hv ha => ?cancel,
    fun hle => ⟨fun ha hpos => ?armed, fun ha => ?idle⟩, ⟨bcps, ocps, bcps', ocps'⟩, ?bcpd, ?ocpd⟩
  case vbk =>
    have narrowed : v.setWidth 1 = BitVec.ofNat 1 (v.toNat % 2) := setWidth_eq_ofNat_mod 1 v
    rw [← vbk_read, ← narrowed]
    exact access_cgbReg hcgb 0xFF4F .vbk v rfl
  case svbk =>
    have narrowed : v.setWidth 3 = BitVec.ofNat 3 (v.toNat % 8) := setWidth_eq_ofNat_mod 3 v
    rw [← svbk_read, ← narrowed]
    exact access_cgbReg hcgb 0xFF70 .svbk v rfl
  case arm => exact control.trans (hdma5Write_arm s hv)
  case cancel => exact control.trans (hdma5Write_cancel hv ha)
  case armed => exact status.trans (congrArg Except.ok (hdma5Read_active hle hpos ha))
  case idle => exact status.trans (congrArg Except.ok (hdma5Read_inactive hle ha))
  case bcpd =>
    rw [← palNext_eq]
    exact access_cgbReg hcgb 0xFF69 .bcpd v rfl
  case ocpd =>
    rw [← palNext_eq]
    exact access_cgbReg hcgb 0xFF6B .ocpd v rfl

/-! ### Filling cells of a memory list -/

/-- The writes of `src j` to cell `cell j`, for the `k` indices from `i` on. -/
def Memory.fill (src : Nat → Byte) (cell : Nat → Nat) : Nat → Nat → Memory → Memory
  | 0, _, m => m
  | k + 1, i, m => Memory.fill src cell k (i + 1) (m.write (cell i) (src i))

/-- A cell that is not filled reads as before. -/
theorem Memory.read_fill_other {src : Nat → Byte} {cell : Nat → Nat} {k i c : Nat} (m : Memory)
    (h : ∀ j, i ≤ j → j < i + k → c ≠ cell j) : (m.fill src cell k i).read c = m.read c := by
  induction k generalizing i m with
  | zero => rfl
  | succ k ih =>
    rw [Memory.fill, ih _ fun j hj hj' => h j (by omega) (by omega)]
    exact Memory.read_write_ne m _ _ _ (h i (by omega) (by omega))

/-- A filled cell reads as its source, when no two indices share a cell. -/
theorem Memory.read_fill_same {src : Nat → Byte} {cell : Nat → Nat} {size k i j : Nat} {m : Memory}
    (hwf : m.wf size = true) (hsize : ∀ j, i ≤ j → j < i + k → cell j < size)
    (hinj : ∀ j j', i ≤ j → j < j' → j' < i + k → cell j ≠ cell j') (hj : i ≤ j) (hj' : j < i + k) :
    (m.fill src cell k i).read (cell j) = src j := by
  induction k generalizing i m with
  | zero => omega
  | succ k ih =>
    rw [Memory.fill]
    by_cases hfirst : j = i
    · subst hfirst
      rw [Memory.read_fill_other _ fun j' h h' => hinj j j' hj h (by omega)]
      exact Memory.read_write_same hwf _ _
    · exact ih (Memory.wf_write hwf _ _ (hsize i (by omega) (by omega)))
        (fun j h h' => hsize j (by omega) (by omega)) (fun j j' h h' h'' => hinj j j' (by omega) h' (by omega))
        (by omega) (by omega)

/-! ### Which addresses reach video RAM and OAM -/

/-- The addresses of a cell of video RAM (R76) and of a cell of OAM (R86). -/
def ReachedFrom (a : Word) : Loc → Prop
  | .vram _ => 0x8000 ≤ a.toNat ∧ a.toNat < 0xA000
  | .oam i => a.toNat = 0xFE00 + i
  | _ => True

theorem locate_reachedFrom (s : State) (a : Word) : ReachedFrom a (locate s a) := by
  cases region a with
  | rom h => rw [locate_rom h]; trivial
  | vram h h' => rw [locate_vram h h']; exact ⟨h, h'⟩
  | cartRam h h' => rw [locate_cartRam h h']; trivial
  | wram0 h h' => rw [locate_wram0 h h']; trivial
  | wram1 h h' => rw [locate_wram1 h h']; trivial
  | echo h h' =>
    have hn := echo_toNat h
    obtain ⟨i, hi⟩ := locate_wram (s := s) (a := a - 0x2000) (by omega) (by omega)
    rw [locate_echo h h', hi]; trivial
  | oam h h' => rw [locate_oam h h']; show _ = _; omega
  | noop h h' => rw [locate_noop h h']; trivial
  | io h h' =>
    rw [locate_io h h']
    have hok := locateIo_cases s.launch.variant h h'
    unfold ioWindowOk at hok
    cases hl : locateIo s.launch.variant a.toNat with
    | vram i => rw [hl] at hok; cases hok
    | oam i => rw [hl] at hok; cases hok
    | _ => trivial
  | hram h h' => rw [locate_hram h h']; trivial
  | ie h => rw [locate_ie h]; trivial

/-- A byte stored in video RAM leaves the addresses outside it reading as before. -/
theorem memRead_setVram (s : State) (i : Nat) (v : Byte) {a : Word} (h : a.toNat < 0x8000 ∨ 0xA000 ≤ a.toNat) :
    memRead (setVram s i v) a = memRead s a := by
  have hreach := locate_reachedFrom s a
  refine memRead_of_loc (locate_congr rfl rfl rfl a) ?_
  cases hl : locate s a with
  | vram j => rw [hl] at hreach; obtain ⟨_, _⟩ := hreach; omega
  | io r => cases r <;> rfl
  | _ => rfl

/-- A byte stored in OAM leaves the addresses of the other cells reading as before. -/
theorem memRead_setOam (s : State) (i : Nat) (v : Byte) {a : Word} (h : a.toNat ≠ 0xFE00 + i) :
    memRead (setOam s i v) a = memRead s a := by
  have hreach := locate_reachedFrom s a
  refine memRead_of_loc (locate_congr rfl rfl rfl a) ?_
  cases hl : locate s a with
  | oam j =>
    rw [hl] at hreach
    have hne : j ≠ i := fun e => h (e ▸ hreach)
    exact congrArg Except.ok (Memory.read_write_ne _ _ _ v hne)
  | io r => cases r <;> rfl
  | _ => rfl

/-! ### The OAM DMA -/

/-- The OAM DMA from a page fills OAM with the page's bytes (R329): only page 0xFE is in OAM, and there each byte is its own
source. -/
theorem oamDmaCopy_eq_fill {src : Nat → Byte} {k i : Nat} {base : Word} {s : State} (hpage : base.toNat % 256 = 0)
    (hk : i + k ≤ 160) (h : ∀ j, i ≤ j → j < i + k → memRead s (base + BitVec.ofNat 16 j) = .ok (src j)) :
    oamDmaCopy k i base s = .ok { s with mem := { s.mem with oam := s.mem.oam.fill src id k i } } := by
  induction k generalizing i s with
  | zero => rfl
  | succ k ih =>
    simp only [oamDmaCopy, h i (by omega) (by omega)]
    refine ih (by omega) fun j hj hj' => ?_
    have hne : (base + BitVec.ofNat 16 j).toNat ≠ 0xFE00 + i := by
      rw [BitVec.toNat_add, BitVec.toNat_ofNat]; omega
    rw [memRead_setOam s i _ hne]
    exact h j (by omega) (by omega)

/-- The addresses of a page. -/
theorem page_addr (v : Byte) (k : Nat) : pair v 0 + BitVec.ofNat 16 k = BitVec.ofNat 16 (v.toNat * 256 + k) :=
  BitVec.eq_of_toNat_eq (by simp [pair_toNat])

/-- A page can be read unless it is the I/O page under the fatal policy (R91). -/
theorem canRead_page {s : State} {v : Byte} (h : v ≠ 0xFF ∨ s.launch.unmappedPolicy = .sentinel) {k : Nat}
    (hk : k < 160) : canRead s (pair v 0 + BitVec.ofNat 16 k) = true := by
  rw [canRead, Bool.or_eq_true, Bool.not_eq_true', decide_eq_true_eq]
  refine h.imp_left fun hv => Bool.eq_false_iff.2 fun hu => ?_
  obtain ⟨hlow, _⟩ := ((isUnmapped_iff s _).1 hu).inWindow
  have hv' : v.toNat ≠ 0xFF := fun e => hv (BitVec.eq_of_toNat_eq e)
  have := v.isLt
  rw [page_addr, BitVec.toNat_ofNat] at hlow
  omega

/-- A write to `DMA` that is not 0 runs the copy from its page, with the register stored. -/
theorem memWrite_dma (s : State) {v : Byte} (hv : v ≠ 0) :
    memWrite s 0xFF46 v = oamDmaCopy 160 0 (pair v 0) { s with ppu := { s.ppu with dma := v } } :=
  (access_io .dma v rfl).2.trans (if_neg hv)

/-- Settles O51: the copy is a fill of OAM by the bytes the bus gives at the start; on the I/O page it meets 0xFF03, which is
unmapped. -/
theorem oamDmaCopiesPage : Obligations.OamDmaCopiesPage := by
  intro s v hwf s1
  obtain ⟨_, _, hoam, _⟩ := (Mem.wf_iff _ _).1 hwf
  refine ⟨fun hv => ?zero, fun hv hpage => ?copies, fun hv hp => ?faults⟩
  case zero => exact (access_io .dma v rfl).2.trans (if_pos hv)
  case copies =>
    have readable : ∀ k, k < 160 → ∃ b, memRead s1 (pair v 0 + BitVec.ofNat 16 k) = .ok b := fun k hk =>
      (memRead_ok_iff s1 _).2 (canRead_page hpage hk)
    choose! src hsrc using readable
    have aligned : (pair v 0).toNat % 256 = 0 := by simp [pair_toNat]
    refine ⟨s.mem.oam.fill src id 160 0, ?_, fun k hk => ?_⟩
    · rw [memWrite_dma s hv]
      exact oamDmaCopy_eq_fill aligned (by omega) fun j _ hj => hsrc j (by omega)
    · have filled : (s.mem.oam.fill src id 160 0).read k = src k :=
        Memory.read_fill_same (cell := id) hoam (fun j _ hj => by simpa using hj)
          (fun j j' _ h _ => Nat.ne_of_lt h) (Nat.zero_le k) (by omega)
      rw [← page_addr, filled]
      exact hsrc k hk
  case faults =>
    subst hv
    have unreadable : canRead s1 (pair 0xFF 0 + BitVec.ofNat 16 3) = false := by
      have hu : isUnmapped s1 (pair 0xFF 0 + BitVec.ofNat 16 3) = true := (isUnmapped_iff _ _).2 (.inl rfl)
      have hp1 : s1.launch.unmappedPolicy = .fatal := hp
      rw [canRead, hu, hp1]; rfl
    rw [memWrite_dma s (by decide)]
    exact oamDmaCopy_error 160 0 _ s1 3 (by omega) (by omega) unreadable

/-! ### The general VRAM DMA -/

/-- A copy of `k + m` bytes is one of `k` bytes and then one of `m`. -/
theorem copyBytes_add (k m i : Nat) (src dst : Word) (s : State) :
    copyBytes (k + m) i src dst s = copyBytes k i src dst s >>= copyBytes m (i + k) src dst := by
  induction k generalizing i s with
  | zero => rw [Nat.zero_add]; rfl
  | succ k ih =>
    rw [Nat.succ_add]
    simp only [copyBytes]
    cases memRead s (src + BitVec.ofNat 16 i) with
    | error f => rfl
    | ok b => exact (ih _ _).trans (by rw [Nat.add_right_comm, Nat.add_assoc])

/-- The next VRAM offset counts as 16 more, modulo the size of a bank (R342). -/
theorem nextDst_offset (dst : Word) (i : Nat) : ((nextDst dst).toNat + i) % 0x2000 = (dst.toNat + (i + 16)) % 0x2000 := by
  rw [nextDst, BitVec.toNat_ofNat]; omega

/-- A copy from byte 16 on is the copy with both addresses 16 further. -/
theorem copyBytes_shift (k i : Nat) (src dst : Word) (s : State) :
    copyBytes k (i + 16) src dst s = copyBytes k i (src + 16) (nextDst dst) s := by
  induction k generalizing i s with
  | zero => rfl
  | succ k ih =>
    simp only [copyBytes, chunk_addr, nextDst_offset, Nat.add_comm 16 i]
    cases memRead s (src + BitVec.ofNat 16 (i + 16)) with
    | error f => rfl
    | ok b => exact (congrArg (copyBytes k · src dst _) (Nat.add_right_comm i 16 1)).trans (ih _ _)

/-- The chunks of a general VRAM DMA are one copy of all their bytes (R342). -/
theorem copyChunks_eq_copyBytes (n : Nat) (src dst : Word) (s : State) :
    copyChunks n src dst s = copyBytes (16 * n) 0 src dst s := by
  induction n generalizing src dst s with
  | zero => rfl
  | succ n ih =>
    rw [Nat.mul_succ, Nat.add_comm (16 * n) 16, copyBytes_add]
    simp only [copyChunks, copyChunk]
    cases copyBytes 16 0 src dst s with
    | error f => rfl
    | ok t => exact (ih _ _ t).trans (copyBytes_shift _ 0 src dst t).symm

/-- Where byte `k` of a copy to the VRAM offset `dst` goes in the bank of `VBK` (R345). -/
def vramCell (s : State) (dst : Word) (k : Nat) : Nat := s.ppu.vbk.toNat * 0x2000 + (dst.toNat + k) % 0x2000

/-- A copy from outside video RAM fills the cells with the bytes of the source (R345). -/
theorem copyBytes_eq_fill {bytes : Nat → Byte} {k i : Nat} {src dst : Word} {s : State}
    (h : ∀ j, i ≤ j → j < i + k → memRead s (src + BitVec.ofNat 16 j) = .ok (bytes j))
    (hout : ∀ j, i ≤ j → j < i + k →
      (src + BitVec.ofNat 16 j).toNat < 0x8000 ∨ 0xA000 ≤ (src + BitVec.ofNat 16 j).toNat) :
    copyBytes k i src dst s = .ok { s with mem := { s.mem with vram := s.mem.vram.fill bytes (vramCell s dst) k i } } := by
  induction k generalizing i s with
  | zero => rfl
  | succ k ih =>
    simp only [copyBytes, h i (by omega) (by omega)]
    refine ih (fun j hj hj' => ?_) fun j hj hj' => hout j (by omega) (by omega)
    rw [memRead_setVram s _ _ (hout j (by omega) (by omega))]
    exact h j (by omega) (by omega)

/-- The cells of a bank are inside video RAM, and a copy of at most a bank writes none of them twice. -/
theorem vramCell_lt (s : State) (dst : Word) (k : Nat) : vramCell s dst k < 0x4000 := by
  have := s.ppu.vbk.isLt
  unfold vramCell; omega

theorem vramCell_ne (s : State) (dst : Word) {k k' : Nat} (h : k < k') (h' : k' < 0x2000) :
    vramCell s dst k ≠ vramCell s dst k' := by
  unfold vramCell; omega

/-- A write to `HDMA5` without bit 7, while no transfer is armed, copies at once (R342). -/
theorem hdma5Write_copy {s t : State} {v : Byte} (hv : v.toNat < 128) (ha : s.ppu.hdma.active = false)
    (h : copyBytes (16 * (v.toNat + 1)) 0 (hdmaSrc0 s.ppu.hdma) (hdmaDst0 s.ppu.hdma) s = .ok t) :
    hdma5Write s v = .ok (setHdma t { t.ppu.hdma with remaining := 0 }) := by
  rw [← copyChunks_eq_copyBytes] at h
  rw [hdma5Write, if_neg (by rw [bit7_iff]; omega), if_neg (by simp [ha]), Nat.mod_eq_of_lt hv, h]

/-- Settles O52: the chunks are one fill of the cells by the bytes of the source, whose block is shorter than a bank. -/
theorem generalVramDmaCopiesBlock : Obligations.GeneralVramDmaCopiesBlock := by
  intro s v hcgb hwf hv ha src dst size cell hsource
  obtain ⟨hvram, _⟩ := (Mem.wf_iff _ _).1 hwf
  have hsize : size ≤ 0x2000 := by omega
  choose! bytes hbytes using fun k (hk : k < size) => (memRead_ok_iff s _).2 (hsource k hk).1
  have copied := copyBytes_eq_fill (k := size) (i := 0) (dst := hdmaDst0 s.ppu.hdma)
    (fun j _ hj => hbytes j (by omega)) fun j _ hj => (hsource j (by omega)).2
  refine ⟨s.mem.vram.fill bytes cell size 0, ?completes, fun k hk => ?copies, fun j hj => ?keeps⟩
  case completes =>
    exact (access_cgbReg hcgb 0xFF55 .hdma5 v rfl).2.trans (hdma5Write_copy hv ha copied)
  case copies =>
    have filled : (s.mem.vram.fill bytes cell size 0).read (cell k) = bytes k :=
      Memory.read_fill_same hvram (fun j _ _ => vramCell_lt s _ j)
        (fun j j' _ h h' => vramCell_ne s _ h (by omega)) (Nat.zero_le k) (by omega)
    rw [filled]
    exact hbytes k hk
  case keeps => exact Memory.read_fill_other _ fun k _ hk => hj k (by omega)

end Sys2Proof.Machine
end

section
/-! PROOFS. Family `49_ppu_render`: what the line renderer reads and writes, how a pixel is composed, and its tiles and colours. -/

namespace Sys2Proof.Machine

/-! ### What the renderer reads -/

/-- The state that has the render inputs of `s` (R450) and is reset in everything else. -/
def renderView (s : State) : State :=
  { State.reset with
    launch := { Launch.default with
      variant := s.launch.variant, monoPalette := s.launch.monoPalette, rgbOverrides := s.launch.rgbOverrides }
    ppu := { Ppu.reset Frame.blank with
      lcdc := s.ppu.lcdc, scx := s.ppu.scx, scy := s.ppu.scy, wx := s.ppu.wx, wy := s.ppu.wy, bgp := s.ppu.bgp,
      obp0 := s.ppu.obp0, obp1 := s.ppu.obp1 }
    mem := { Mem.empty with vram := s.mem.vram, oam := s.mem.oam, bgPal := s.mem.bgPal, objPal := s.mem.objPal } }

theorem renderView_eq {s t : State} (h : sameRenderInputs s t) : renderView s = renderView t := by
  obtain ⟨hvariant, hmono, hrgb, hlcdc, hscx, hscy, hwx, hwy, hbgp, hobp0, hobp1, hvram, hoam, hbgPal, hobjPal⟩ := h
  simp only [renderView, hvariant, hmono, hrgb, hlcdc, hscx, hscy, hwx, hwy, hbgp, hobp0, hobp1, hvram, hoam, hbgPal,
    hobjPal]

theorem layer1_renderView (s : State) (x ly : Nat) : layer1 (renderView s) x ly = layer1 s x ly := rfl

theorem spritePixel_renderView (s : State) (n x ly : Nat) :
    spritePixel (renderView s) n x ly = spritePixel s n x ly := rfl

theorem topSprite_renderView (s : State) (x ly k n : Nat) :
    topSprite (renderView s) x ly k n = topSprite s x ly k n := by
  induction k generalizing n with
  | zero => rfl
  | succ k ih => simp only [topSprite, spritePixel_renderView, ih]

/-- A pixel depends on the render inputs alone (R450). -/
theorem pixelAt_renderView (s : State) (x ly : Nat) : pixelAt (renderView s) x ly = pixelAt s x ly := by
  unfold pixelAt
  rw [layer1_renderView, topSprite_renderView]
  rfl

theorem pixelAt_congr {s t : State} (h : sameRenderInputs s t) (x ly : Nat) : pixelAt s x ly = pixelAt t x ly := by
  rw [← pixelAt_renderView s, renderView_eq h, pixelAt_renderView]

/-! ### What the renderer writes -/

/-- A rendered line is row `LY` of the frame buffer; the other rows stay (R420, R421). -/
theorem renderLine_pixel (s : State) {y x : Nat} (hy : y < 144) (hx : x < 160) :
    ((renderLine s).ppu.framebuffer[y]'hy)[x]'hx =
      if y = s.ppu.ly.toNat then pixelAt s x y else (s.ppu.framebuffer[y]'hy)[x]'hx := by
  simp only [renderLine, Vector.getElem_setIfInBounds]
  by_cases h : y = s.ppu.ly.toNat
  · subst h; simp [renderedRow]
  · simp [h, Ne.symm h]

/-- Settles O58: a pixel is computed from its inputs, and a line is written into its row. -/
theorem rendererIsPureAndWritesOneRow : Obligations.RendererIsPureAndWritesOneRow :=
  ⟨fun _ _ h => pixelAt_congr h, fun s _ _ hy hx => renderLine_pixel s hy hx, fun _ => rfl⟩

/-! ### Composition -/

/-- The window's coverage (R430). -/
theorem windowCovers_iff (s : State) (x ly : Nat) : windowCovers s x ly = true ↔
    s.ppu.lcdc.getLsbD 5 = true ∧ s.ppu.wy.toNat ≤ ly ∧ s.ppu.wx.toNat ≤ x + 7 := by
  simp [windowCovers, bit, and_assoc]

/-- A sprite's geometry on the integers (R434). -/
theorem spriteCovers_iff (s : State) (n x ly : Nat) : spriteCovers s n x ly = true ↔
    ((oamByte s (4 * n)).toNat : Int) - 16 ≤ ly ∧ (ly : Int) < (oamByte s (4 * n)).toNat - 16 + spriteHeight s ∧
    ((oamByte s (4 * n + 1)).toNat : Int) - 8 ≤ x ∧ x < (oamByte s (4 * n + 1)).toNat := by
  simp only [spriteCovers, Bool.and_eq_true, decide_eq_true_eq]
  omega

/-- A sprite that has a colour index not 0 at a pixel (R437). -/
def Opaque (s : State) (x ly n : Nat) : Prop := ∃ ci, spritePixel s n x ly = some ci ∧ ci ≠ 0

/-- An opaque sprite is on top of those that follow it. -/
theorem topSprite_opaque {s : State} {x ly n ci : Nat} (k : Nat) (h : spritePixel s n x ly = some ci) (hci : ci ≠ 0) :
    topSprite s x ly (k + 1) n = some (n, ci) := by
  obtain ⟨c, rfl⟩ := Nat.exists_eq_succ_of_ne_zero hci
  simp only [topSprite, h]

/-- Any other is passed over. -/
theorem topSprite_clear {s : State} {x ly n : Nat} (k : Nat) (h : ¬Opaque s x ly n) :
    topSprite s x ly (k + 1) n = topSprite s x ly k (n + 1) := by
  simp only [topSprite]
  split
  · next ci hci => exact absurd ⟨_, hci, Nat.succ_ne_zero ci⟩ h
  · rfl

/-- Where no sprite is opaque none is on top. -/
theorem topSprite_none {s : State} {x ly k n : Nat} (h : ∀ j, n ≤ j → j < n + k → ¬Opaque s x ly j) :
    topSprite s x ly k n = none := by
  induction k generalizing n with
  | zero => rfl
  | succ k ih =>
    rw [topSprite_clear k (h n (by omega) (by omega))]
    exact ih fun j hj hj' => h j (by omega) (by omega)

/-- The lowest-numbered opaque sprite is on top (R437). -/
theorem topSprite_lowest {s : State} {x ly k n m ci : Nat} (hn : n ≤ m) (hm : m < n + k)
    (hci : spritePixel s m x ly = some ci) (hne : ci ≠ 0) (h : ∀ j, n ≤ j → j < m → ¬Opaque s x ly j) :
    topSprite s x ly k n = some (m, ci) := by
  induction k generalizing n with
  | zero => omega
  | succ k ih =>
    rcases Nat.eq_or_lt_of_le hn with rfl | hlt
    · exact topSprite_opaque k hci hne
    · rw [topSprite_clear k (h n (Nat.le_refl n) hlt)]
      exact ih hlt (by omega) fun j hj hj' => h j (by omega) hj'

/-- An 8 by 16 sprite takes the even tile and the one after it (R435). -/
theorem spriteTile_eq (s : State) (n : Nat) : spriteTile s n =
    if s.ppu.lcdc.getLsbD 2 then (oamByte s (4 * n + 2)).toNat - (oamByte s (4 * n + 2)).toNat % 2
    else (oamByte s (4 * n + 2)).toNat := by
  have even : ∀ t : Nat, t / 2 * 2 = t - t % 2 := by omega
  rw [← even]; rfl

/-- A bank bit as a bank number. -/
theorem flag_toNat (b : Bool) : b.toNat = if b = true then 1 else 0 := by cases b <;> rfl

/-- A pixel without a sprite on it shows the layer (R420). -/
theorem pixelAt_layer {s : State} {x ly : Nat}
    (h : s.ppu.lcdc.getLsbD 1 = false ∨ ∀ n, n < 40 → ¬Opaque s x ly n) : pixelAt s x ly = (layer1 s x ly).2 := by
  unfold pixelAt bit
  rcases h with hoff | hclear
  · simp only [hoff, Bool.false_eq_true, if_false]
  · simp only [topSprite_none (s := s) (k := 40) (n := 0) fun j _ hj => hclear j (by omega), ite_self]

/-- The lowest-numbered opaque sprite shows over the layer, unless it stands behind the layer's colours (R437, R439, R441). -/
theorem pixelAt_sprite {s : State} {x ly n ci : Nat} (hon : s.ppu.lcdc.getLsbD 1 = true) (hn : n < 40)
    (hci : spritePixel s n x ly = some ci) (hne : ci ≠ 0) (hlowest : ∀ k, k < n → ¬Opaque s x ly k) :
    pixelAt s x ly =
      if (oamByte s (4 * n + 3)).getLsbD 7 = false ∨ (layer1 s x ly).1 = 0 then objColour s ci (oamByte s (4 * n + 3))
      else (layer1 s x ly).2 := by
  have htop := topSprite_lowest (k := 40) (Nat.zero_le n) (by omega) hci hne fun j _ hj => hlowest j hj
  unfold pixelAt bit
  simp only [hon, if_true, htop, Bool.or_eq_true, Bool.not_eq_true', beq_iff_eq]

/-- Settles O59: the layer and the sprites by the cases of their definitions, and the pixel by which sprite is on top. -/
theorem pixelComposition : Obligations.PixelComposition := by
  intro s x ly _ _
  refine ⟨fun hoff => ?blank, fun hon hwin => ?window, fun hon hwin => ?background, fun n => ?sprite, pixelAt_layer,
    fun n ci hon hn => pixelAt_sprite hon hn⟩
  case blank => exact if_neg (ne_true_of_eq_false hoff)
  case window => exact (if_pos hon).trans (by rw [if_pos ((windowCovers_iff s x ly).2 hwin)]; rfl)
  case background => exact (if_pos hon).trans (by rw [if_neg (mt (windowCovers_iff s x ly).1 hwin)]; rfl)
  case sprite =>
    refine if_congr (spriteCovers_iff s n x ly) ?_ rfl
    rw [spriteTile_eq]
    cases s.launch.variant with
    | dmg => rfl
    | cgb => simp only [true_and, flag_toNat]; rfl

/-! ### Tiles and colours -/

/-- A bit as a number. -/
theorem bit_toNat (v : Byte) (i : Nat) : (bit v i).toNat = v.toNat / 2 ^ i % 2 := Nat.toNat_testBit ..

/-- Tile offsets: unsigned from 0, or signed around 0x1000 (R423). -/
theorem tileOffset_eq (lcdc t : Byte) : (tileOffset lcdc t.toNat : Int) =
    if lcdc.getLsbD 4 then 16 * (t.toNat : Int) else 0x1000 + 16 * t.toInt := by
  unfold tileOffset bit
  rw [BitVec.toInt_eq_toNat_cond]
  split_ifs <;> omega

/-- The three low bits of a byte (R446). -/
theorem byte_low3 (v : Byte) : (v &&& 7).toNat = v.toNat % 8 := by
  rw [BitVec.toNat_and]; exact Nat.and_two_pow_sub_one_eq_mod _ 3

/-- A shade is the two bits of its colour index (R445). -/
theorem shade_eq (p : Byte) (ci : Nat) : shade p ci = (p >>> (2 * ci)).toNat % 4 := by
  rw [shade, BitVec.toNat_ushiftRight, Nat.shiftRight_eq_div_pow, Nat.pow_mul]

/-- A 15-bit colour has its low byte first (R446). -/
theorem palColour_eq (m : Memory) (i : Nat) :
    palColour m i = ((m.read (i + 1)).toNat * 256 + (m.read i).toNat) % 0x8000 := by
  rw [palColour, pair_toNat]

/-- The default conversion of a colour given by its channels (R448). -/
theorem rgb15ToPixel_default {l : Launch} (h : l.rgbOverrides = []) {r g b : Nat} (hr : r < 32) (hg : g < 32) (hb : b < 32) :
    rgb15ToPixel l (r + 32 * g + 1024 * b) =
      BitVec.ofNat 32 (0xFF000000 + ((r * 8 + r / 4) * 65536 + (g * 8 + g / 4) * 256 + (b * 8 + b / 4))) := by
  have hred : (r + 32 * g + 1024 * b) % 32 = r := by omega
  have hgreen : (r + 32 * g + 1024 * b) / 32 % 32 = g := by omega
  have hblue : (r + 32 * g + 1024 * b) / 1024 % 32 = b := by omega
  simp only [rgb15ToPixel, h, findOverride, Option.getD_none, defaultRgb15, hred, hgreen, hblue, widen5]
  congr 1; omega

/-- Settles O60: each function of the renderer in its arithmetical form; the map entry on each variant, of which only the Color one
reads bank 1. -/
theorem tilesAndColours : Obligations.TilesAndColours := by
  refine ⟨fun s bank off c r _ => ?tile, tileOffset_eq, fun s base px py => ?map, fun s ci attr hdmg => ?mono,
    fun s ci attr hcgb => ?colour, fun l r g b hr hg hb h => rgb15ToPixel_default h hr hg hb⟩
  case tile => rw [tileCi, bit_toNat, bit_toNat]; rfl
  case map =>
    cases hv : s.launch.variant <;>
      simp only [mapPixel, vramByte, bit, hv, flag_toNat, reduceCtorEq, if_false, if_true, Nat.one_mul, Nat.zero_mul,
        Nat.zero_add]
  case mono => exact ⟨by simp only [bgColour, hdmg, shade_eq], by simp only [objColour, hdmg, shade_eq]; rfl⟩
  case colour => simp only [bgColour, objColour, hcgb, palColour_eq, byte_low3, and_self]

end Sys2Proof.Machine
end

section
/-! PROOFS. Family `48_ppu_modes`: the transitions of the mode machine, the raster position and the delivered frames. -/

namespace Sys2Proof.Machine

/-! ### One advance over one threshold -/

/-- A rendered row does not depend on the cycle count (R450). -/
theorem renderedRow_setPpuCycles (s : State) (n ly : Nat) : renderedRow (setPpuCycles s n) ly = renderedRow s ly := by
  have same : sameRenderInputs (setPpuCycles s n) s := by unfold sameRenderInputs; and_intros <;> rfl
  unfold renderedRow
  simp only [pixelAt_congr same]

/-- The four modes (R380). -/
theorem mode_cases (m : BitVec 2) : m = 2 ∨ m = 3 ∨ m = 0 ∨ m = 1 := by
  revert m; decide

/-- The mode that `statWith` puts into `STAT` (R380, R396). -/
theorem statWith_setWidth {mode : Byte} (h : mode ≤ 3) (stat : Byte) (coincidence : Bool) :
    (statWith stat mode coincidence).setWidth 2 = mode.setWidth 2 := by
  obtain ⟨h0, h1, h2, h3⟩ := statWith_mode stat coincidence
  have cases : mode = 0 ∨ mode = 1 ∨ mode = 2 ∨ mode = 3 := by bv_omega
  rcases cases with rfl | rfl | rfl | rfl
  · exact h0
  · exact h1
  · exact h2
  · exact h3

/-- An advance that reaches the threshold of the mode and not that of the next mode is one transition (R381). -/
theorem ppuAdvance_leave {c len nextLen rest : Nat} {s t : State} {mode : BitVec 2} {stat next : Byte} {coincidence : Bool}
    (hmode : ppuMode s = mode) (hlen : modeLength mode = len) (hge : len ≤ s.ppu.cycles + c)
    (hrest : s.ppu.cycles + c - len = rest) (hleave : leaveMode mode (setPpuCycles s rest) = .ok t)
    (hstat : t.ppu.stat = statWith stat next coincidence) (hnext : next ≤ 3)
    (hnextLen : modeLength (next.setWidth 2) = nextLen) (hlt : s.ppu.cycles + c < len + nextLen) :
    ppuAdvance c s = .ok t := by
  subst hmode hlen hrest
  refine ppuAdvance_once c s t hge hleave ?_
  have hcycles := (leaveMode_keeps (s := setPpuCycles s (s.ppu.cycles + c - modeLength (ppuMode s))) hleave).2
  have hthreshold : modeLength (ppuMode t) = nextLen := by rw [ppuMode, hstat, statWith_setWidth hnext, hnextLen]
  rw [hcycles, hthreshold, setPpuCycles_ppu_cycles]
  omega

/-- A chunk's copy completes exactly when its 16 source bytes can be read (R344, R345). -/
theorem copyChunk_completes {s t : State} (src dst : Word) (hlaunch : t.launch = s.launch) :
    (canReadBlock s src 16 = true → ∃ u, copyChunk src dst t = .ok u) ∧
    (canReadBlock s src 16 = false → ∃ f, copyChunk src dst t = .error f) := by
  refine ⟨fun h => copyBytes_ok 16 0 src dst t fun j _ hj => ?_, fun h => ?_⟩
  · exact (canRead_congr hlaunch _).trans ((canReadBlock_iff s src 16).1 h j (by omega))
  · obtain ⟨j, hj, hread⟩ : ∃ j < 16, canRead s (src + BitVec.ofNat 16 j) = false := by
      simpa [canReadBlock_iff] using mt (canReadBlock_iff s src 16).2 (by rw [h]; decide)
    exact copyBytes_error 16 0 src dst t j (Nat.zero_le j) (by omega) ((canRead_congr hlaunch _).trans hread)

/-- Without an armed transfer, or on the monochrome console, H-blank moves no chunk (R344). -/
theorem hblankDmaChunk_idle {s : State} (h : s.launch.variant = .dmg ∨ s.ppu.hdma.active = false) :
    hblankDmaChunk s = .ok s := by
  unfold hblankDmaChunk
  split
  · rfl
  · next hcgb =>
    have ha : s.ppu.hdma.active = false := h.resolve_left (by rw [hcgb]; decide)
    rw [ha]; rfl

/-- An armed transfer moves one chunk, or raises the `Fatal` of its copy (R344). -/
theorem hblankDmaChunk_armed {s : State} (hcgb : s.launch.variant = .cgb) (ha : s.ppu.hdma.active = true) :
    (∀ u, copyChunk s.ppu.hdma.src s.ppu.hdma.dst s = .ok u →
      hblankDmaChunk s = .ok { u with ppu := { u.ppu with hdma := { s.ppu.hdma with
        src := s.ppu.hdma.src + 16, dst := BitVec.ofNat 16 ((s.ppu.hdma.dst.toNat + 16) % 0x2000),
        remaining := s.ppu.hdma.remaining - 1, active := decide (s.ppu.hdma.remaining - 1 ≠ 0) } } }) ∧
    ∀ f, copyChunk s.ppu.hdma.src s.ppu.hdma.dst s = .error f → hblankDmaChunk s = .error f := by
  have beqZero : ∀ n : Nat, (!(n == 0)) = decide (n ≠ 0) := fun n => by cases n <;> rfl
  refine ⟨fun u hu => ?_, fun f hf => ?_⟩
  · have hppu : u.ppu = s.ppu := by rw [copyBytes_frame 16 0 _ _ s u hu]
    simp only [hblankDmaChunk, hcgb, ha, if_true, hu, hppu, beqZero, nextDst, setHdma]
  · simp only [hblankDmaChunk, hcgb, ha, if_true, hf]

/-- Settles O55: each clause is the transition of its mode, which a single threshold makes happen once. -/
theorem ppuTransitions : Obligations.PpuTransitions := by
  intro s c
  refine ⟨ppuAdvance_below c s, fun hm hge hlt => ?transfer, fun hm hge hlt => ?hblank, fun hm hge hlt => ?visibleLine,
    fun hm hge hlt => ?vblankLine⟩
  case transfer =>
    generalize hrest : s.ppu.cycles + c - 80 = rest
    refine ppuAdvance_leave hm rfl hge hrest (congrArg Except.ok ((enterTransfer_eq _).trans ?_)) rfl (by decide) rfl hlt
    rw [renderedRow_setPpuCycles]; rfl
  case hblank =>
    generalize hrest : s.ppu.cycles + c - 172 = rest
    intro s1
    have leave : leaveMode 3 (setPpuCycles s rest) = hblankDmaChunk s1 := congrArg hblankDmaChunk (hblank_eq _)
    obtain ⟨readable, unreadable⟩ := copyChunk_completes (s := s) (t := s1) s.ppu.hdma.src s.ppu.hdma.dst rfl
    refine ⟨fun h => ?idle, fun hcgb ha hread => (readable hread).imp fun u hu => ⟨hu, ?chunk⟩,
      fun hcgb ha hread => (unreadable hread).imp fun f hf => ?fatal⟩
    case idle =>
      exact ppuAdvance_leave hm rfl hge hrest (leave.trans (hblankDmaChunk_idle h)) rfl (by decide) rfl hlt
    case chunk =>
      obtain ⟨moved, _⟩ := hblankDmaChunk_armed (s := s1) hcgb ha
      have hstat : u.ppu.stat = s1.ppu.stat := by rw [copyBytes_frame 16 0 _ _ s1 u hu]
      exact ppuAdvance_leave hm rfl hge hrest (leave.trans (moved u hu)) hstat (by decide) rfl hlt
    case fatal =>
      obtain ⟨_, raised⟩ := hblankDmaChunk_armed (s := s1) hcgb ha
      refine ppuAdvance_error c s f (by rw [hm]; exact hge) ?_
      rw [hm, show modeLength 3 = 172 from rfl, hrest]
      exact leave.trans (raised f hf)
  case visibleLine =>
    generalize hrest : s.ppu.cycles + c - 204 = rest
    have leave := endVisibleLine_eq (setPpuCycles s rest)
    exact ⟨
      fun hly => ppuAdvance_leave hm rfl hge hrest (congrArg Except.ok (leave.trans (if_pos hly))) rfl (by decide) rfl
        (Nat.lt_of_lt_of_le hlt (by decide)),
      fun hly => ppuAdvance_leave hm rfl hge hrest (congrArg Except.ok (leave.trans (if_neg hly))) rfl (by decide) rfl hlt⟩
  case vblankLine =>
    generalize hrest : s.ppu.cycles + c - 456 = rest
    have leave := endVblankLine_eq (setPpuCycles s rest) hm
    exact ⟨
      fun hly => ppuAdvance_leave hm rfl hge hrest (congrArg Except.ok (leave.trans (if_pos hly))) rfl (by decide) rfl hlt,
      fun hly => ppuAdvance_leave hm rfl hge hrest (congrArg Except.ok (leave.trans (if_neg hly))) rfl (by decide) rfl
        (Nat.lt_of_lt_of_le hlt (by decide))⟩

/-! ### The raster position -/

/-- How far into its line each mode begins (R391). -/
def modeOffset (mode : BitVec 2) : Nat := if mode = 3 then 80 else if mode = 0 then 252 else 0

/-- `m` cycles after reset the raster of R391 enters a mode in a line, `frames` frames having been delivered: the V-blank mode is
that of the lines from 144 on, and the frame is delivered as it begins. -/
def ModeBegins (m : Nat) (mode : BitVec 2) (line frames : Nat) : Prop :=
  ∃ frame, m = 70224 * frame + 456 * line + modeOffset mode ∧
    (if mode = 1 then 144 ≤ line ∧ line < 154 else line < 144) ∧ frames = frame + if mode = 1 then 1 else 0

/-- `ModeBegins` for the mode, line and frames of a machine. -/
def MachineModeBegins (m : Nat) (s : State) : Prop :=
  ModeBegins m (ppuMode s) s.ppu.ly.toNat s.ppu.framesOut.length

/-- The lengths of the modes (R8, R381). -/
theorem modeLength_eq (m : BitVec 2) :
    modeLength m = if m = 2 then 80 else if m = 3 then 172 else if m = 0 then 204 else 456 := rfl

/-- Each mode of a visible line begins where the one before it ends, and the last mode of any line ends with the line, whose next
one begins with mode 2 or 1 (R391). -/
theorem modeOffset_add_modeLength :
    modeOffset 2 + modeLength 2 = modeOffset 3 ∧ modeOffset 3 + modeLength 3 = modeOffset 0 ∧
    modeOffset 0 + modeLength 0 = 456 ∧ modeOffset 1 + modeLength 1 = 456 ∧ modeOffset 2 = 0 ∧ modeOffset 1 = 0 := by
  decide

/-- The position of R391 is the beginning of the mode and the cycles spent in it, which are fewer than its length. -/
theorem rasterAt_iff (s : State) (T : Nat) : RasterAt s T ↔
    ∃ m, MachineModeBegins m s ∧ m + s.ppu.cycles = T ∧ s.ppu.cycles < modeLength (ppuMode s) := by
  unfold RasterAt MachineModeBegins ModeBegins
  constructor
  · rintro ⟨hline, hmode, hframes⟩
    refine ⟨T - s.ppu.cycles, ⟨T / 70224, ?_⟩, ?_⟩ <;>
    · split_ifs at hmode <;> obtain ⟨hm, hcycles⟩ := hmode <;> simp [hm, modeOffset, modeLength_eq] <;> omega
  · rintro ⟨m, ⟨frame, rfl, hline, hframes⟩, rfl, hbelow⟩
    rcases mode_cases (ppuMode s) with h | h | h | h <;> simp [h, modeOffset, modeLength_eq] at hline hframes hbelow ⊢ <;>
      omega

/-- A line that is not the last one has a number after it. -/
theorem byte_toNat_succ_of_ne {b last : Byte} (h : b ≠ last) (hle : b.toNat ≤ last.toNat) :
    (b + 1).toNat = b.toNat + 1 ∧ b.toNat < last.toNat := by
  bv_omega

/-- A mode that begins at `m` ends as long after it as it lasts, and the next one begins then. -/
theorem MachineModeBegins.leave {m : Nat} {s t : State} (h : MachineModeBegins m s) (change : ModeChange s t) :
    MachineModeBegins (m + modeLength (ppuMode s)) t := by
  unfold MachineModeBegins at h ⊢
  obtain ⟨frame, rfl, hline, hframes⟩ := h
  obtain ⟨endOam, endTransfer, endVisible, endVblank, visibleLine, vblankLine⟩ := modeOffset_add_modeLength
  rcases mode_cases (ppuMode s) with hm | hm | hm | hm <;> rw [hm] at hline hframes ⊢
  · obtain ⟨hmode, hly, hout⟩ := change.fromOam hm
    rw [hmode, hly, hout]
    exact ⟨frame, by omega, hline, hframes⟩
  · obtain ⟨hmode, hly, hout⟩ := change.fromTransfer hm
    rw [hmode, hly, hout]
    exact ⟨frame, by omega, hline, hframes⟩
  · have hvisible : s.ppu.ly.toNat < 144 := hline
    by_cases hlast : s.ppu.ly = 143
    · obtain ⟨hmode, hly, hout, _, _⟩ := change.toVblank hm hlast
      have hnow : s.ppu.ly.toNat = 143 := congrArg BitVec.toNat hlast
      have hnext : t.ppu.ly.toNat = 144 := congrArg BitVec.toNat hly
      rw [hmode, hnext, hout, List.length_append, hframes]
      exact ⟨frame, by omega, by decide, rfl⟩
    · obtain ⟨hmode, hly, hout⟩ := change.fromHblank hm hlast
      obtain ⟨hnext, hlt⟩ := byte_toNat_succ_of_ne hlast (Nat.le_of_lt_succ hvisible)
      rw [hmode, hly, hout, hnext]
      exact ⟨frame, by omega, Nat.succ_lt_succ hlt, hframes⟩
  · obtain ⟨hlow, hhigh⟩ : 144 ≤ s.ppu.ly.toNat ∧ s.ppu.ly.toNat < 154 := hline
    by_cases hlast : s.ppu.ly = 153
    · obtain ⟨hmode, hly, hout⟩ := change.fromVblank hm hlast
      have hnow : s.ppu.ly.toNat = 153 := congrArg BitVec.toNat hlast
      have hnext : t.ppu.ly.toNat = 0 := congrArg BitVec.toNat hly
      rw [hmode, hnext, hout]
      exact ⟨frame + 1, by omega, by decide, hframes⟩
    · obtain ⟨hmode, hly, hout⟩ := change.inVblank hm hlast
      obtain ⟨hnext, hlt⟩ := byte_toNat_succ_of_ne hlast (Nat.le_of_lt_succ hhigh)
      rw [hmode, hly, hout, hnext]
      exact ⟨frame, by omega, ⟨Nat.le_succ_of_le hlow, Nat.succ_lt_succ hlt⟩, hframes⟩

/-- An advance of the PPU moves the raster by as many cycles (R381, R391). -/
theorem ppuAdvance_raster {c T : Nat} {s t : State} (h : ppuAdvance c s = .ok t) (hs : RasterAt s T) :
    RasterAt t (T + c) := by
  obtain ⟨m, hbegins, hT, -⟩ := (rasterAt_iff s T).1 hs
  obtain ⟨k, hk, hcycles⟩ := ppuLoop_induction (P := MachineModeBegins)
    (fun m n s t hm hl => MachineModeBegins.leave (s := setPpuCycles s n) hm (leaveMode_change hl)) _ h hbegins
  refine (rasterAt_iff t _).2 ⟨k, hk, ?_, (ppuAdvance_keeps h).2.2⟩
  rw [hcycles, ← hT, setPpuCycles_ppu_cycles, Nat.add_assoc]

/-- The raster is where `LY`, `STAT`, the cycle count and the delivered frames say. -/
theorem RasterAt.congr {s t : State} {T : Nat} (h : RasterAt s T) (hly : t.ppu.ly = s.ppu.ly)
    (hmode : ppuMode t = ppuMode s) (hcycles : t.ppu.cycles = s.ppu.cycles)
    (hframes : t.ppu.framesOut = s.ppu.framesOut) : RasterAt t T := by
  unfold RasterAt; rw [hly, hmode, hcycles, hframes]; exact h

/-- The mode is the low two of the three bits of `STAT` that the CPU cannot write (R324, R380). -/
theorem ppuMode_of_stat {s t : State} (h : t.ppu.stat &&& 0x07 = s.ppu.stat &&& 0x07) : ppuMode t = ppuMode s := by
  have low : ∀ v : Byte, v.setWidth 2 = (v &&& 0x07).setWidth 2 := by decide
  unfold ppuMode; rw [low, h, ← low]

/-- Polling the external unit leaves the PPU alone (R488). -/
theorem pollExt_ppu (s : State) : (pollExt s).ppu = s.ppu := by
  rw [(pollExt_frame s).1]

/-- So does the timer (R513). -/
theorem timerAdvance_ppu (c : Nat) (s : State) : (timerAdvance c s).ppu = s.ppu := by
  obtain ⟨d, t, b, f, _, h⟩ := timerAdvance_frame c s
  rw [h]

/-- Settles O56: the CPU's part leaves the raster where it is, the PPU moves it by the cost, and the timer does not reach it. -/
theorem rasterFollowsClosedForm : Obligations.RasterFollowsClosedForm := by
  refine ⟨⟨rfl, ⟨rfl, rfl⟩, rfl⟩, fun s t u T hs hfault hcpu hly hstep hsafe => ?_⟩
  rcases step_cases hfault hstep with ⟨x, _, rfl⟩ | ⟨w, c, v, heffect, hcpu', hv, rfl⟩
  · cases hsafe
  · cases hcpu.symm.trans hcpu'
    have keeps := heffect.writes
    have hpolled := pollExt_ppu s
    have raster : RasterAt { w with cpu := c } T := hs.congr hly
      (ppuMode_of_stat (keeps.stat.trans (by rw [hpolled]))) (keeps.cycles.trans (by rw [hpolled]))
      (keeps.framesOut.trans (by rw [hpolled]))
    have hend := timerAdvance_ppu c.cycles v
    exact (ppuAdvance_raster hv raster).congr (by rw [hend]) (ppuMode_of_stat (by rw [hend])) (by rw [hend]) (by rw [hend])

/-! ### The delivered frames -/

/-- Of the six transitions only that into V-blank delivers a frame (R384, R389). -/
theorem ModeChange.delivers {s t : State} (h : ModeChange s t) : DeliversAtVblank s t := by
  have stays : t.ppu.framesOut = s.ppu.framesOut → ppuMode t ≠ 1 ∨ ppuMode s ≠ 0 → DeliversAtVblank s t :=
    fun hout hne => .inl ⟨hout, fun ⟨h0, h1⟩ => hne.elim (· h1) (· h0)⟩
  rcases mode_cases (ppuMode s) with hm | hm | hm | hm
  · exact stays (h.fromOam hm).2.2 (.inr (by rw [hm]; decide))
  · exact stays (h.fromTransfer hm).2.2 (.inr (by rw [hm]; decide))
  · by_cases hly : s.ppu.ly = 143
    · obtain ⟨hmode, hnext, hout, hbuffer, hif⟩ := h.toVblank hm hly
      exact .inr ⟨hout, hbuffer, hm, hmode, hly, hnext, hif⟩
    · obtain ⟨hmode, _, hout⟩ := h.fromHblank hm hly
      exact stays hout (.inl (by rw [hmode]; decide))
  · have hne : ppuMode s ≠ 0 := by rw [hm]; decide
    by_cases hly : s.ppu.ly = 153
    · exact stays (h.fromVblank hm hly).2.2 (.inr hne)
    · exact stays (h.inVblank hm hly).2.2 (.inr hne)

/-- Nothing is delivered where neither the mode nor the frames change. -/
theorem DeliversAtVblank.of_same {s t : State} (hmode : ppuMode t = ppuMode s)
    (hframes : t.ppu.framesOut = s.ppu.framesOut) : DeliversAtVblank s t :=
  .inl ⟨hframes, fun ⟨h0, h1⟩ => by rw [hmode, h0] at h1; cases h1⟩

/-- A short advance of the PPU makes at most one transition. -/
theorem ppuAdvance_delivers {c : Nat} {s t : State} (h : ppuAdvance c s = .ok t)
    (hbelow : s.ppu.cycles < modeLength (ppuMode s)) (hc : c < 80) : DeliversAtVblank s t := by
  rw [ppuAdvance_short c s (by omega)] at h
  split at h
  · cases h; exact .of_same rfl rfl
  · exact (leaveMode_change (s := setPpuCycles s (s.ppu.cycles + c - modeLength (ppuMode s))) h).delivers

/-- A frame delivered after a CPU step counts for the whole step: the step left the PPU's output and mode alone, and `LY` too, or
it could not be 143. -/
theorem DeliversAtVblank.after_cpu {s u t : State} (h : DeliversAtVblank u t)
    (hstat : u.ppu.stat &&& 0x07 = s.ppu.stat &&& 0x07) (hly : u.ppu.ly = s.ppu.ly ∨ u.ppu.ly = 0)
    (hframes : u.ppu.framesOut = s.ppu.framesOut) (hbuffer : u.ppu.framebuffer = s.ppu.framebuffer) :
    DeliversAtVblank s t := by
  unfold DeliversAtVblank at h
  rw [ppuMode_of_stat hstat, hframes, hbuffer] at h
  refine h.imp_right fun ⟨hout, hfb, h0, h1, hu, hend, hif⟩ => ⟨hout, hfb, h0, h1, ?_, hend, hif⟩
  rcases hly with e | e
  · rw [← e, hu]
  · rw [e] at hu; cases hu

/-- The timer neither delivers a frame nor takes back the request of V-blank (R512). -/
theorem DeliversAtVblank.before_timer {s t : State} (h : DeliversAtVblank s t) (c : Nat) :
    DeliversAtVblank s (timerAdvance c t) := by
  obtain ⟨d, tima, acc, f, hf, e⟩ := timerAdvance_frame c t
  rw [e]
  refine h.imp_right fun ⟨hout, hfb, h0, h1, hu, hend, hif⟩ => ⟨hout, hfb, h0, h1, hu, hend, ?_⟩
  rcases hf with rfl | rfl
  · exact hif
  · rw [BitVec.getLsbD_or, hif]; rfl

/-- No CPU step costs a whole mode, if an interrupt service does not (R490, R553). -/
theorem CpuStepEffect.cost_lt {s u : State} {c : Cpu} (h : CpuStepEffect s u c)
    (hservice : interruptDue s = true → s.launch.intServiceCycles < 80) : c.cycles < 80 := by
  have hcost := h.cost
  split at hcost
  · next hd => rw [hcost]; exact hservice hd
  · have := costOk_iff hcost; omega

/-- Settles O57: a transition by its kind, a step by the one transition it can make. -/
theorem frameDeliveredAtVblankEntry : Obligations.FrameDeliveredAtVblankEntry := by
  refine ⟨fun s t h => (leaveMode_change h).delivers, fun s t hinv hservice hstep => ?_⟩
  have hpolled := pollExt_ppu s
  rcases step_cases (fault_none_of_step hstep) hstep with ⟨x, halted, rfl⟩ | ⟨u, c, v, heffect, _, hv, rfl⟩
  · exact .of_same (ppuMode_of_stat (by rw [hpolled])) (by rw [hpolled])
  · have keeps := heffect.writes
    have hlaunch : (pollExt s).launch = s.launch := by rw [(pollExt_frame s).1]
    have hbelow : u.ppu.cycles < modeLength (ppuMode u) := by
      have := (pollExt_inv hinv).ppuBelow
      rwa [← ppuMode_of_stat keeps.stat, ← keeps.cycles] at this
    have hcost : c.cycles < 80 := heffect.cost_lt (by rw [hlaunch]; exact hservice)
    have delivered := (ppuAdvance_delivers hv hbelow hcost).after_cpu keeps.stat keeps.ly keeps.framesOut keeps.framebuffer
    exact (delivered.after_cpu (by rw [hpolled]) (.inl (by rw [hpolled])) (by rw [hpolled]) (by rw [hpolled])).before_timer _

end Sys2Proof.Machine
end

section
/-! PROOFS. Families `60_exceptions` and `70_reset_and_hazards`: fetching, interrupts, faults, the driver's round, costs and the
timer. -/

namespace Sys2Proof.Machine

/-! ### Fetching -/

/-- An opcode that stands alone (R492). -/
theorem fetch_opcode {s : State} {op : Byte} (h : memRead s s.cpu.pc = .ok op) (hlen : fetchLength op = 1) :
    fetch s = .ok (decode3 op 0 0) := by
  simp only [fetch, h, hlen, if_true]

/-- An opcode and one operand byte. -/
theorem fetch_operand {s : State} {op b1 : Byte} (h : memRead s s.cpu.pc = .ok op)
    (h1 : memRead s (s.cpu.pc + 1) = .ok b1) (hlen : fetchLength op = 2) : fetch s = .ok (decode3 op b1 0) := by
  simp only [fetch, h, h1, hlen, if_true, if_neg (show (2 : Nat) ≠ 1 by decide)]

/-- An opcode and two operand bytes. -/
theorem fetch_operands {s : State} {op b1 b2 : Byte} (h : memRead s s.cpu.pc = .ok op)
    (h1 : memRead s (s.cpu.pc + 1) = .ok b1) (h2 : memRead s (s.cpu.pc + 2) = .ok b2) (hlen : 2 < fetchLength op) :
    fetch s = .ok (decode3 op b1 b2) := by
  have hne1 : fetchLength op ≠ 1 := by omega
  have hne2 : fetchLength op ≠ 2 := by omega
  simp only [fetch, h, h1, h2, if_neg hne1, if_neg hne2]

/-- An opcode that cannot be read. -/
theorem fetch_opcode_error {s : State} {f : Fault} (h : memRead s s.cpu.pc = .error f) : fetch s = .error f := by
  simp only [fetch, h]

/-- A second byte that cannot be read. -/
theorem fetch_operand_error {s : State} {op : Byte} {f : Fault} (h : memRead s s.cpu.pc = .ok op)
    (hlen : 1 < fetchLength op) (h1 : memRead s (s.cpu.pc + 1) = .error f) : fetch s = .error f := by
  simp only [fetch, h, h1, if_neg (Nat.ne_of_gt hlen)]

/-- A third byte that cannot be read. -/
theorem fetch_operands_error {s : State} {op b1 : Byte} {f : Fault} (h : memRead s s.cpu.pc = .ok op)
    (h1 : memRead s (s.cpu.pc + 1) = .ok b1) (hlen : 2 < fetchLength op) (h2 : memRead s (s.cpu.pc + 2) = .error f) :
    fetch s = .error f := by
  have hne1 : fetchLength op ≠ 1 := by omega
  simp only [fetch, h, h1, h2, if_neg hne1, if_neg (Nat.ne_of_gt hlen)]

/-- What was fetched is a row of the opcode at `PC`. -/
theorem fetch_ok {s : State} {i : Instr} (h : fetch s = .ok i) :
    ∃ op b1 b2, memRead s s.cpu.pc = .ok op ∧ i = decode3 op b1 b2 := by
  simp only [fetch] at h
  cases h0 : memRead s s.cpu.pc with
  | error f => rw [h0] at h; cases h
  | ok op =>
    rw [h0] at h
    simp only at h
    split at h
    · cases h; exact ⟨op, 0, 0, rfl, rfl⟩
    · split at h
      · cases h
      · split at h
        · cases h; exact ⟨op, _, 0, rfl, rfl⟩
        · split at h <;> cases h
          exact ⟨op, _, _, rfl, rfl⟩

/-- The opcode of what was fetched is its first byte in memory. -/
theorem fetch_opcode_of_encode {s : State} {i : Instr} {op : Byte} {rest : List Byte} (h : fetch s = .ok i)
    (hbytes : encode i = op :: rest) : memRead s s.cpu.pc = .ok op := by
  obtain ⟨op', b1, b2, hread, rfl⟩ := fetch_ok h
  have hrow := (decode3_rowAt op' b1 b2).encode
  rw [hbytes] at hrow
  obtain ⟨rfl, _⟩ := List.cons.inj hrow
  exact hread

/-- What a whole list of bytes decodes to, by the length of its opcode's instruction (R120, R135). -/
theorem decode_exact {bytes : List Byte} {i : Instr} (h : decode bytes = .ok (i, [])) : ∃ op,
    (opLength op = 1 ∧ bytes = [op] ∧ i = decode3 op 0 0) ∨
    (∃ b1, opLength op = 2 ∧ bytes = [op, b1] ∧ i = decode3 op b1 0) ∨
    ∃ b1 b2, opLength op = 3 ∧ bytes = [op, b1, b2] ∧ i = decode3 op b1 b2 := by
  unfold decode at h
  split at h
  · cases h
  next op tail =>
    refine ⟨op, ?_⟩
    split at h
    next hlen => cases h; exact .inl ⟨hlen, rfl, rfl⟩
    next b1 _ hlen => cases h; exact .inr (.inl ⟨b1, hlen, rfl, rfl⟩)
    next b1 b2 _ hlen => cases h; exact .inr (.inr ⟨b1, b2, hlen, rfl, rfl⟩)
    · cases h

/-- A step reads all bytes of an instruction but the second of `STOP` (R302; log 10). -/
theorem fetchLength_eq {op : Byte} (h : op ≠ 0x10) : fetchLength op = opLength op := if_neg h

/-! ### The CPU step -/

/-- `STOP` does the same whatever its second byte, which is not read (R302; log 10). -/
theorem exec_stop (b1 : Byte) (s : State) :
    exec (decode3 0x10 b1 0) s = raiseFatal (.unimplementedOpcode 0x10 s.cpu.pc) s := rfl

/-- A CPU that is not halted and services no interrupt runs an instruction (R490). -/
theorem cpuStep_running {s : State} (hd : interruptDue s = false) (hh : s.cpu.halted = false) :
    cpuStep s = runInstruction s := by
  simp only [cpuStep, hd, hh, Bool.false_eq_true, if_false]

theorem runInstruction_ok {s : State} {i : Instr} (h : fetch s = .ok i) : runInstruction s = exec i s := by
  simp only [runInstruction, h]

theorem runInstruction_error {s : State} {f : Fault} (h : fetch s = .error f) : Raises (runInstruction s) f := by
  simp only [runInstruction, h]; exact raises_raiseFatal ..

/-- The opcode of `STOP` at `PC` raises its `Fatal`. -/
theorem runInstruction_stop {s : State} (h : memRead s s.cpu.pc = .ok 0x10) :
    runInstruction s = raiseFatal (.unimplementedOpcode 0x10 s.cpu.pc) s :=
  (runInstruction_ok (fetch_opcode h rfl)).trans (exec_stop 0 s)

/-- The bytes at `PC` are those of a list. -/
def BytesAtPc (s : State) (bytes : List Byte) : Prop :=
  ∀ (k : Nat) (b : Byte), bytes[k]? = some b → memRead s (s.cpu.pc + BitVec.ofNat 16 k) = .ok b

/-- The instruction that the bytes at `PC` decode to is the one that runs (R492). -/
theorem runInstruction_of_decode {s : State} {bytes : List Byte} {i : Instr} (hdec : decode bytes = .ok (i, []))
    (hbytes : BytesAtPc s bytes) : runInstruction s = exec i s := by
  have first : ∀ {op rest}, bytes = op :: rest → memRead s s.cpu.pc = .ok op := by
    rintro op rest rfl
    rw [← hbytes 0 op rfl, show s.cpu.pc + BitVec.ofNat 16 0 = s.cpu.pc from BitVec.add_zero _]
  obtain ⟨op, ⟨hlen, rfl, rfl⟩ | ⟨b1, hlen, rfl, rfl⟩ | ⟨b1, b2, hlen, rfl, rfl⟩⟩ := decode_exact hdec
  · have hne : op ≠ 0x10 := by rintro rfl; cases hlen
    exact runInstruction_ok (fetch_opcode (first rfl) ((fetchLength_eq hne).trans hlen))
  · by_cases hstop : op = 0x10
    · subst hstop
      rw [runInstruction_stop (first rfl), exec_stop]
    · exact runInstruction_ok (fetch_operand (first rfl) (hbytes 1 b1 rfl) ((fetchLength_eq hstop).trans hlen))
  · have hne : op ≠ 0x10 := by rintro rfl; cases hlen
    exact runInstruction_ok (fetch_operands (first rfl) (hbytes 1 b1 rfl) (hbytes 2 b2 rfl)
      (by rw [fetchLength_eq hne, hlen]; decide))

/-- A `Fatal` of the CPU step is one of the whole step (R505). -/
theorem step_raises {s : State} {f : Fault} (hf : s.fault = none) (h : Raises (cpuStep (pollExt s)) f) :
    Raises (step s) f := by
  obtain ⟨t, hcpu, ht⟩ := h
  refine ⟨t, ?_, ht⟩
  rw [step_eq hf hcpu]
  simp only [advanceUnits, ht]

/-- Polling the external unit leaves the CPU alone (R488). -/
theorem pollExt_cpu (s : State) : (pollExt s).cpu = s.cpu := by
  rw [(pollExt_frame s).1]

/-- Settles O8: the step is what the CPU step runs, which is the fetched instruction or the `Fatal` of the fetch. -/
theorem stepRunsDecodedInstruction : Obligations.StepRunsDecodedInstruction := by
  intro s hf hd hh
  rw [← pollExt_cpu s]
  rw [← pollExt_cpu s] at hh
  have running := cpuStep_running hd hh
  have raises : ∀ {f}, fetch (pollExt s) = .error f → Raises (step s) f := fun hfetch =>
    step_raises hf (by rw [running]; exact runInstruction_error hfetch)
  refine ⟨fun bytes i hdec hbytes => ?runs, fun f h => raises (fetch_opcode_error h),
    fun op f h hlen h1 => raises (fetch_operand_error h hlen h1),
    fun op b f h h1 hlen h2 => raises (fetch_operands_error h h1 hlen h2), fun h => ?stop⟩
  case runs =>
    obtain ⟨t, ht⟩ := exec_next i (pollExt s)
    exact ⟨t, ht, step_eq hf (running.trans ((runInstruction_of_decode hdec hbytes).trans ht))⟩
  case stop =>
    refine step_raises hf ?_
    rw [running, runInstruction_stop h]; exact raises_raiseFatal ..

/-! ### The driver's round -/

/-- After a CPU step that raised nothing the PPU and then the timer advance (R500). -/
theorem advanceUnits_ok (p : State) {t u : State} (hf : t.fault = none) (h : ppuAdvance t.cpu.cycles t = .ok u) :
    advanceUnits p t = .next (timerAdvance t.cpu.cycles u) := by
  simp only [advanceUnits, hf, h]

/-- A `Fatal` of the PPU's advance leaves the polled state (R504, log 7). -/
theorem advanceUnits_error (p : State) {t : State} {f : Fault} (hf : t.fault = none)
    (h : ppuAdvance t.cpu.cycles t = .error f) : advanceUnits p t = raiseFatal f p := by
  simp only [advanceUnits, hf, h]

/-- After one that raised a `Fatal` neither does. -/
theorem advanceUnits_faulted (p : State) {t : State} {f : Fault} (hf : t.fault = some f) : advanceUnits p t = .next t := by
  simp only [advanceUnits, hf]

/-- Settles O9: the frame of the poll, and the step after each outcome of the CPU step. -/
theorem driverRound : Obligations.DriverRound := by
  refine ⟨fun s => ⟨(pollExt_frame s).1, (pollExt_frame s).2, fun hext => ?silent⟩,
    fun s t u hf hcpu ht hu => (step_eq hf hcpu).trans (advanceUnits_ok _ ht hu),
    fun s t f hf hcpu ht => (step_eq hf hcpu).trans (advanceUnits_faulted _ ht), fun s t f hf => ?faulted⟩
  case silent => simp only [pollExt, hext]
  case faulted => rw [step_faulted hf]; exact nofun

/-! ### The halted CPU -/

/-- A halted CPU with nothing pending idles (R491). -/
theorem cpuStep_idle {s : State} (hh : s.cpu.halted = true) (hp : pending s = 0) :
    cpuStep s = .next { s with cpu := { s.cpu with cycles := 4 } } := by
  have hd : interruptDue s = false := by simp [interruptDue, hp]
  simp only [cpuStep, hd, hh, hp, Bool.false_eq_true, if_false, if_true, ne_eq, not_true_eq_false]

/-- A pending interrupt that is not serviced ends the halt (R491). -/
theorem cpuStep_waking {s : State} (hd : interruptDue s = false) (hh : s.cpu.halted = true) (hp : pending s ≠ 0) :
    cpuStep s = runInstruction { s with cpu := { s.cpu with halted := false } } := by
  simp only [cpuStep, hd, hh, Bool.false_eq_true, if_false, if_true, if_pos hp]

/-- Settles O10: with `IME` clear no interrupt is serviced, halted or not, so the waking CPU runs as the running one does. -/
theorem haltedCpuIdlesAndWakes : Obligations.HaltedCpuIdlesAndWakes := by
  refine fun s hh => ⟨cpuStep_idle hh, fun hp hime => ?_⟩
  have hd : interruptDue s = false := by rw [interruptDue, hime]; rfl
  rw [cpuStep_waking hd hh hp, cpuStep_running (s := { s with cpu := { s.cpu with halted := false } }) hd rfl]

/-! ### Interrupt entry and return -/

/-- `s` with its interrupt `i` acknowledged in `IF` (R493). -/
def acknowledged (s : State) (i : Nat) : State := { s with ifReg := s.ifReg &&& ~~~((1 : BitVec 5) <<< i) }

/-- `s` at the entry to interrupt `i`, before its `PC` is pushed: the halt ended and `IME` cleared, too. -/
def enteringInterrupt (s : State) (i : Nat) : State :=
  { acknowledged s i with cpu := { s.cpu with halted := false, ime := false } }

/-- An interrupt is due when `IME` is set and one is pending (R487, R490). -/
theorem interruptDue_of {s : State} (hime : s.cpu.ime = true) (hp : pending s ≠ 0) : interruptDue s = true := by
  rw [interruptDue, hime, decide_eq_true hp]; rfl

theorem cpuStep_interrupt {s : State} (hd : interruptDue s = true) : cpuStep s = takeInterrupt s := if_pos hd

/-- Interrupt entry whose push completes (R490, R493). -/
theorem takeInterrupt_ok {s t : State}
    (h : push16 (enteringInterrupt s (lowestSet (pending s))) s.cpu.pc = .ok t) :
    takeInterrupt s = .next (jumpTo (vector (lowestSet (pending s))) s.launch.intServiceCycles t) := by
  unfold enteringInterrupt acknowledged at h
  simp only [takeInterrupt, h]

/-- The entry's push is its two writes from the acknowledged state: they do not look at the CPU. -/
theorem push16_entering {s t u : State} {i : Nat} {w : Word}
    (ht : memWrite (acknowledged s i) (s.cpu.sp - 1) (hi w) = .ok t) (hu : memWrite t (s.cpu.sp - 2) (lo w) = .ok u) :
    push16 (enteringInterrupt s i) w =
      .ok { u with cpu := { s.cpu with halted := false, ime := false, sp := s.cpu.sp - 2 } } := by
  refine (push16_cpu (acknowledged s i) { s.cpu with halted := false, ime := false } w).trans ?_
  simp only [ht, hu]

/-- Interrupt entry whose push raises a `Fatal` (R504). -/
theorem takeInterrupt_error {s : State} {f : Fault}
    (h : push16 (enteringInterrupt s (lowestSet (pending s))) s.cpu.pc = .error f) : Raises (takeInterrupt s) f := by
  unfold enteringInterrupt acknowledged at h
  simp only [takeInterrupt, h]
  exact raises_raiseFatal ..

/-- Settles O11: `i` is the interrupt that is taken, and its entry's push completes or raises a `Fatal` as `canPush` says. -/
theorem interruptEntry : Obligations.InterruptEntry := by
  intro s i hime hi hset hlowest s1
  have hd : interruptDue s = true := interruptDue_of hime fun h0 => by rw [h0] at hset; simp at hset
  have hlow : lowestSet (pending s) = i := lowestSet_eq _ i hi hset hlowest
  rw [cpuStep_interrupt hd]
  subst hlow
  refine ⟨fun hpush => ?completes, fun hpush => ?raises⟩
  case completes =>
    obtain ⟨t, u, ht, hu, _⟩ := push16_ok hpush
    exact ⟨t, u, ht, hu, takeInterrupt_ok (push16_entering ht hu)⟩
  case raises =>
    obtain ⟨f, hf⟩ := push16_error (s := enteringInterrupt s (lowestSet (pending s))) hpush
    exact ⟨f, takeInterrupt_error hf⟩

/-- `RETI` goes back to the word at `SP` (R291, R497). -/
theorem exec_reti {s : State} {l h : Byte} (hl : memRead s s.cpu.sp = .ok l) (hh : memRead s (s.cpu.sp + 1) = .ok h) :
    exec .reti s = .next { s with cpu := { s.cpu with
      sp := s.cpu.sp + 2, pc := pair h l, ime := true, cycles := 16 } } := by
  obtain ⟨_, completes, _, _⟩ := returnsPopPc .reti s
  obtain ⟨_, _, reti⟩ := completes l h hl hh
  exact reti rfl

/-- Settles O12: the push onto RAM leaves the interrupted `PC` where `RETI` pops it. -/
theorem interruptEntryThenReti : Obligations.InterruptEntryThenReti := by
  intro s t hwf hime hp hhigh hlow hstep
  rw [cpuStep_interrupt (interruptDue_of hime hp)] at hstep
  obtain ⟨u, hpush, hcpu, hfault, hie, hl, hh⟩ :=
    push16_ram (s := enteringInterrupt s (lowestSet (pending s))) (w := s.cpu.pc) hwf hhigh hlow
  cases hstep.symm.trans (takeInterrupt_ok hpush)
  have hsp : u.cpu.sp = s.cpu.sp - 2 := congrArg Cpu.sp hcpu
  have ha : u.cpu.a = s.cpu.a := by rw [hcpu]; rfl
  have hf : u.cpu.f = s.cpu.f := by rw [hcpu]; rfl
  have hl' : memRead u u.cpu.sp = .ok (lo s.cpu.pc) := hsp ▸ hl
  have hh' : memRead u (u.cpu.sp + 1) = .ok (hi s.cpu.pc) := by
    rw [hsp, show s.cpu.sp - 2 + 1 = s.cpu.sp - 1 by bv_omega]; exact hh
  refine ⟨hfault, hl', hh', _, exec_reti (s := jumpTo (vector (lowestSet (pending s))) s.launch.intServiceCycles u)
    hl' hh', pair_hi_lo _, ?sp, rfl, ha, hf, hie, fun _ => rfl⟩
  case sp =>
    show u.cpu.sp + 2 = s.cpu.sp
    rw [hsp]; bv_omega

/-! ### Faults -/

/-- The opcodes that fault when they are fetched: an illegal one and `STOP` (R302, R305). -/
theorem CpuFault.listed {s : State} {f : Fault} (h : CpuFault s f) :
    (∃ op, f = .unmappedOpcode op s.cpu.pc ∧ memRead s s.cpu.pc = .ok op ∧
      op ∈ ([0xD3, 0xDB, 0xDD, 0xE3, 0xE4, 0xEB, 0xEC, 0xED, 0xF4, 0xFC, 0xFD] : List Byte)) ∨
    (f = .unimplementedOpcode 0x10 s.cpu.pc ∧ memRead s s.cpu.pc = .ok 0x10) ∨ BusFault s f := by
  rcases h with ⟨i, op, hfetch, hform, rfl⟩ | ⟨i, skipped, hfetch, hform, rfl⟩ | hbus
  · obtain ⟨_, hbytes, hmem⟩ := illegalOpcodesRaise.1 i s op hform
    exact .inl ⟨op, rfl, fetch_opcode_of_encode hfetch hbytes, hmem⟩
  · have hbytes : encode i = [0x10, skipped] := by rw [encode_eq_formBytes, hform]; rfl
    exact .inr (.inl ⟨rfl, fetch_opcode_of_encode hfetch hbytes⟩)
  · exact .inr (.inr hbus)

/-- A step of a machine that has not faulted: a `Fatal` of its CPU step or of the PPU's reads, or none (R506). -/
theorem step_faults {s : State} (hf : s.fault = none) :
    ∃ t, step s = .next t ∧ ∀ f, t.fault = some f → CpuFault (pollExt s) f := by
  rcases cpuStep_cases (pollExt s) with ⟨x, halted, hx, hcpu⟩ | ⟨u, c, heffect, hcpu⟩
  · refine ⟨_, (step_eq hf hcpu).trans (advanceUnits_faulted _ rfl), fun f h => ?_⟩
    cases h; exact hx
  · have hu : ({ u with cpu := c } : State).fault = none :=
      heffect.writes.fault.trans (by rw [(pollExt_frame s).1]; exact hf)
    cases hppu : ppuAdvance c.cycles { u with cpu := c } with
    | error x =>
      refine ⟨_, (step_eq hf hcpu).trans (advanceUnits_error _ hu hppu), fun f h => ?_⟩
      cases h; exact .inr (.inr ((ppuAdvance_busFault hppu).congr heffect.writes.launch))
    | ok v =>
      refine ⟨_, (step_eq hf hcpu).trans (advanceUnits_ok _ hu hppu), fun f h => ?_⟩
      obtain ⟨d, tima, acc, g, _, htimer⟩ := timerAdvance_frame c.cycles v
      rw [htimer] at h
      exact absurd (h.symm.trans ((ppuAdvance_keeps hppu).1.fault.trans hu)) nofun

/-- Settles O16: every fault of a step is one that the CPU step can raise, at the polled state. -/
theorem fatalConditionsAreTheListed : Obligations.FatalConditionsAreTheListed := by
  intro s hf
  obtain ⟨t, hstep, hfaults⟩ := step_faults hf
  refine ⟨t, hstep, fun f h => ?_⟩
  have hlaunch : (pollExt s).launch = s.launch := by rw [(pollExt_frame s).1]
  rw [← pollExt_cpu s]
  exact (hfaults f h).listed.imp_right (.imp_right fun hbus => hbus.congr hlaunch)

/-- Settles O19: the two outcomes of an instruction; the stores of the one that raised nothing keep `fault`. -/
theorem abandonedInstructionChangesOnlyFault : Obligations.AbandonedInstructionChangesOnlyFault := by
  intro i s hf
  rcases exec_outcomes i s with ⟨x, _, h⟩ | ⟨u, c, hstores, _, h⟩
  · exact ⟨_, h, .inr rfl⟩
  · exact ⟨_, h, .inl (hstores.keeps.fault.trans hf)⟩

/-! ### Costs -/

/-- Settles O17: the cost of each kind of CPU step that raised nothing. -/
theorem cpuStepCostIsMultipleOfFour : Obligations.CpuStepCostIsMultipleOfFour := by
  refine ⟨fun s t _ hcpu ht => ?_, rfl⟩
  rcases cpuStep_cases s with ⟨x, halted, _, h⟩ | ⟨u, c, heffect, h⟩ <;> cases hcpu.symm.trans h
  · cases ht
  · have hcost := heffect.cost
    cases hd : interruptDue s with
    | true =>
      rw [if_pos hd] at hcost
      refine ⟨fun _ => hcost, fun h20 => ?_⟩
      have : c.cycles = 20 := hcost.trans (h20.resolve_left nofun)
      rw [this]; decide
    | false =>
      rw [if_neg (ne_true_of_eq_false hd)] at hcost
      exact ⟨nofun, fun _ => costOk_iff hcost⟩

/-! ### The timer -/

/-- `n` increments of `DIV` (R511). -/
theorem rounds_tickDiv (n : Nat) (s : State) :
    rounds tickDiv n s = { s with timer := { s.timer with div := BitVec.ofNat 8 (s.timer.div.toNat + n) } } := by
  induction n generalizing s with
  | zero => simp [rounds]
  | succ n ih =>
    have hdiv : BitVec.ofNat 8 ((s.timer.div + 1).toNat + n) = BitVec.ofNat 8 (s.timer.div.toNat + (n + 1)) := by
      apply BitVec.eq_of_toNat_eq
      simp only [BitVec.toNat_ofNat, BitVec.toNat_add, show (1 : Byte).toNat = 1 from rfl]
      omega
    rw [rounds, ih, tickDiv, hdiv]

/-- `TIMA` after `n` increments that began at `tima`, restarting from `tma` at each overflow (R512). -/
def timaAfter (tima tma : Byte) (n : Nat) : Byte :=
  if tima.toNat + n < 256 then BitVec.ofNat 8 (tima.toNat + n)
  else BitVec.ofNat 8 (tma.toNat + (tima.toNat + n - 256) % (256 - tma.toNat))

/-- An increment below the overflow. -/
theorem timaAfter_succ_below {tima : Byte} (tma : Byte) (n : Nat) (h : tima ≠ 0xFF) :
    timaAfter (tima + 1) tma n = timaAfter tima tma (n + 1) := by
  have hnext : (tima + 1).toNat = tima.toNat + 1 := by bv_omega
  rw [timaAfter, timaAfter, hnext, Nat.add_assoc, Nat.add_comm 1 n]

/-- An increment that overflows. -/
theorem timaAfter_succ_overflow (tma : Byte) (n : Nat) : timaAfter tma tma n = timaAfter 0xFF tma (n + 1) := by
  have htma : tma.toNat < 256 := tma.isLt
  have hround : 256 ≤ tma.toNat + n → tma.toNat + n - 256 = n - (256 - tma.toNat) := by omega
  have hlast : (0xFF : Byte).toNat = 255 := rfl
  have hcount : 255 + (n + 1) - 256 = n := by omega
  have hover : timaAfter 0xFF tma (n + 1) = BitVec.ofNat 8 (tma.toNat + n % (256 - tma.toNat)) := by
    rw [timaAfter, if_neg (by rw [hlast]; omega), hlast, hcount]
  rw [hover, timaAfter]
  split
  · next hlt => rw [Nat.mod_eq_of_lt (by omega)]
  · next hge =>
    rw [hround (Nat.not_lt.1 hge), ← Nat.mod_eq_sub_mod (by omega)]

/-- `n` increments of `TIMA`, with the request of an overflow among them (R512). -/
theorem rounds_tickTima (n : Nat) (s : State) :
    rounds tickTima n s = { s with
      ifReg := if 256 ≤ s.timer.tima.toNat + n then s.ifReg ||| 4 else s.ifReg,
      timer := { s.timer with tima := timaAfter s.timer.tima s.timer.tma n } } := by
  induction n generalizing s with
  | zero =>
    have hlt : s.timer.tima.toNat + 0 < 256 := s.timer.tima.isLt
    rw [rounds, timaAfter, if_neg (Nat.not_le.2 hlt), if_pos hlt, Nat.add_zero, BitVec.ofNat_toNat, BitVec.setWidth_eq]
  | succ n ih =>
    rw [rounds, ih, tickTima]
    split
    · next hff =>
      have hover : 256 ≤ s.timer.tima.toNat + (n + 1) := by rw [hff, show (0xFF : Byte).toNat = 255 from rfl]; omega
      have hrequest : s.ifReg ||| ((1 : BitVec 5) <<< 2) = s.ifReg ||| 4 := rfl
      have hagain : s.ifReg ||| 4 ||| 4 = s.ifReg ||| 4 := by rw [BitVec.or_assoc, BitVec.or_self]
      rw [if_pos hover, hff, ← timaAfter_succ_overflow]
      simp only [request, hrequest, hagain, ite_self]
    · next hne =>
      have hnext : (s.timer.tima + 1).toNat = s.timer.tima.toNat + 1 := by bv_omega
      simp only [timaAfter_succ_below _ _ hne, hnext, Nat.add_assoc, Nat.add_comm 1 n]

/-- The period of the selected rate, halved in double speed (R512). -/
theorem timaPeriod_eq (s : State) : timaPeriod s =
    (match s.timer.tac.toNat % 4 with
      | 0 => 1024
      | 1 => 16
      | 2 => 64
      | _ => 256) / (if s.launch.doubleSpeed then 2 else 1) := by
  unfold timaPeriod
  cases s.launch.doubleSpeed
  · exact (Nat.div_one _).symm
  · rfl

/-- The divider's advance (R511). -/
theorem advanceDiv_eq (c : Nat) (s : State) : advanceDiv c s = { s with timer := { s.timer with
    div := BitVec.ofNat 8 (s.timer.div.toNat + (s.timer.divAcc + c) / divPeriod s),
    divAcc := (s.timer.divAcc + c) % divPeriod s } } := by
  simp only [advanceDiv, rounds_tickDiv]

/-- The counter's advance, while `TAC[2]` is set and while it is not (R512). -/
theorem advanceTima_eq (c : Nat) (s : State) :
    let n := (s.timer.timaAcc + c) / timaPeriod s
    let running := s.timer.tac.getLsbD 2
    advanceTima c s = { s with
      ifReg := if running ∧ 256 ≤ s.timer.tima.toNat + n then s.ifReg ||| 4 else s.ifReg,
      timer := { s.timer with
        tima := if running then timaAfter s.timer.tima s.timer.tma n else s.timer.tima,
        timaAcc := if running then (s.timer.timaAcc + c) % timaPeriod s else s.timer.timaAcc } } := by
  simp only [advanceTima, bit, rounds_tickTima]
  cases s.timer.tac.getLsbD 2
  · simp only [Bool.false_eq_true, false_and, if_false]
  · simp only [true_and, if_true]

/-- Settles O54: the divider's closed form and then the counter's, which looks at no register that the divider changes. -/
theorem timerAdvanceClosedForm : Obligations.TimerAdvanceClosedForm := by
  intro s c dp tp nd nt raw running
  have htp : tp = timaPeriod s := (timaPeriod_eq s).symm
  clear_value tp
  subst htp
  rw [timerAdvance, advanceDiv_eq, advanceTima_eq]
  rfl

end Sys2Proof.Machine
end
